-- ==== Sys2Proof/Word.lean ====
section
/-! DEFINITION. The machine words of the Nolumet 716: a byte of a record link (R1), the 16-bit Request and Notice Numbers
(R144, R153) and the 32-bit counts and times (R16, R18). -/

namespace Sys2Proof

/-- One byte of a record link (R1). -/
abbrev Byte := BitVec 8

/-- A 16-bit quantity: a Check (R2), a Request Number (R153), a Notice Number (R144). -/
abbrev Word16 := BitVec 16

/-- A 32-bit quantity: a Timebase time (R16), a counter (R18), a notice Detail (R171). -/
abbrev Word32 := BitVec 32

end Sys2Proof
end

