-- ==== Sys2Proof/Config.lean ====
section
/-! DEFINITION. The capacities and fixed figures of revision C (00_scope.md 1.1, and the rule named at each).
Every one is stated by the manual: the model holds no free value and no implementation-defined constant (log entry 1). -/

namespace Sys2Proof.Config

/-- Channels (stations), numbered 0 to 127 (R35). -/
abbrev channels : Nat := 128
/-- Record slots of the Slot Pool, numbered 0 to 191 (R19). -/
abbrev slots : Nat := 192
/-- Rule entries of a bank, indexed 0 to 95 (R55). -/
abbrev rules : Nat := 96
/-- Chain definitions of a bank, numbered 0 to 15 (R76). -/
abbrev chains : Nat := 16
/-- Translation Maps of a bank, numbered 0 to 7 (R93). -/
abbrev maps : Nat := 8
/-- Entries of one Translation Map, one for each Kind (R93). -/
abbrev kinds : Nat := 256
/-- Forward Queues, numbered 0 to 3 (R100). -/
abbrev queues : Nat := 4
/-- Key bytes of the Key Window (R52). -/
abbrev keyBytes : Nat := 8

/-- The longest body of a record (R4). -/
def maxBody : Nat := 248
/-- Entries the Outbound FIFO can hold (R33). -/
def outboundCapacity : Nat := 16
/-- Requests the Request FIFO can hold (R153). -/
def requestCapacity : Nat := 4
/-- Responses the Response List can hold (R142). -/
def responseCapacity : Nat := 4
/-- Places of the Notice Queue for notices other than NOTICE_LOSS (R145). -/
def ordinaryNotices : Nat := 15

/-- The fill code F0h (R1). -/
def fillCode : Byte := 0xF0#8
/-- The start code F1h (R1). -/
def startCode : Byte := 0xF1#8
/-- Consecutive fills that bring a line UP (R6). -/
def lineUpFills : Nat := 32
/-- Microseconds without a received byte that take a line DOWN (R7). -/
def lineLossMicros : Nat := 1000
/-- Microseconds of the Timebase between two millisecond ticks (R17). -/
def tickMicros : Nat := 1000
/-- The longest duration of COPY BANK and CLEAR STAGING, in microseconds (R137). -/
def longOperationMicros : Nat := 300
/-- The Silence Threshold, in ms (R110). -/
def silenceThreshold : Nat := 60000

end Sys2Proof.Config
end

