-- ==== Sys2Proof/Syntax.lean ====
section
/-! DEFINITION. The commands of the part (one constructor of `Instr` for each row of spec/opcode_table.json), and the values
that its records carry: verdicts, rule entries, chain definitions, map entries, context assignments, requests, responses
and notices (Sections 3 to 6, 9 to 11). -/

namespace Sys2Proof

/-- A station's number, 0 to 127 (R35). -/
abbrev Channel := Fin Config.channels
/-- The number of a record slot, 0 to 191 (R19). -/
abbrev SlotId := Fin Config.slots
/-- The index of a rule entry, 0 to 95 (R55). -/
abbrev RuleIndex := Fin Config.rules
/-- The number of a chain, 0 to 15 (R76). -/
abbrev ChainId := Fin Config.chains
/-- The number of a Forward Queue, 0 to 3 (R100). -/
abbrev QueueId := Fin Config.queues

/-- The two record links (Section 1). -/
inductive Link where
  | field
  | uplink
  deriving DecidableEq, Repr

/-- The steps of the part, one constructor for each row of spec/opcode_table.json. Each is one event of the manual (1.4 of
00_scope.md), taken whole. A row that names a management request is the event in which the Management Engine takes that
request: the request itself, with its number and Parameters, is the head of the Request FIFO (R154; log entry 4). -/
inductive Instr where
  /-- POWER_ON_RESET: RESET is asserted (R31). -/
  | powerOnReset
  /-- RESET_RELEASE: RESET is released with the START_OPEN strap high or low (R36). -/
  | resetRelease (startOpen : Bool)
  /-- BYTE_RECEIVED: the tenth bit time of a byte ends on a link (R1, R4). -/
  | byteReceived (link : Link) (byte : Byte)
  /-- LINE_DOWN: the silence timer of a link's line monitor expires (R7). -/
  | lineDown (link : Link)
  /-- MILLISECOND_TICK: the divider of the Timebase delivers a tick (R17). -/
  | millisecondTick
  /-- WATCH_TICK: the Context Table takes a tick claim on a channel (R110). -/
  | watchTick (ch : Channel)
  /-- LIMIT_EXPIRY: the Context Table takes a tick claim that brings a limit expiry (R111). -/
  | limitExpiry (ch : Channel)
  /-- SILENCE_EXPIRY: the Context Table takes a tick claim that brings a silence expiry (R112). -/
  | silenceExpiry (ch : Channel)
  /-- WINDOW_EXPIRY: the Context Table takes a chain window expiry on a channel (R88). -/
  | windowExpiry (ch : Channel)
  /-- CLASSIFY_TAKE: the Classifier takes the head of the Classify FIFO (R59). -/
  | classifyTake
  /-- CLASSIFY_COMPLETE: the classification in flight completes (R61). -/
  | classifyComplete
  /-- FIELD_TRANSMIT_START: the field transmitter takes the head of the Outbound FIFO (R13). -/
  | fieldTransmitStart
  /-- FIELD_TRANSMIT_END: the field transmitter ends a record's trailing fill (R13). -/
  | fieldTransmitEnd
  /-- UPLINK_GRANT: the Uplink Scheduler grants the uplink transmitter (R140). -/
  | uplinkGrant
  /-- UPLINK_TRANSMIT_COMPLETE: the uplink transmitter reports completion (R14, R27). -/
  | uplinkTransmitComplete
  /-- DUPLICATE_REQUEST: a request with the Last Request Number is taken (R155). -/
  | duplicateRequest
  /-- UNKNOWN_COMMAND_REQUEST: a request whose Command is none of the 22 is taken (R157). -/
  | unknownCommandRequest
  /-- IDENTIFY (R159). -/
  | identify
  /-- READ STATUS (R160). -/
  | readStatus
  /-- READ CONTEXT (R50). -/
  | readContext
  /-- MODIFY CONTEXT: the take, with its validation (R47, R48). -/
  | modifyContext
  /-- MODIFY CONTEXT: the event of the next channel of the range (R49). -/
  | modifyContextChannel
  /-- READ WATCH (R119). -/
  | readWatch
  /-- ACK WATCH: the take, with its validation (R120). -/
  | ackWatch
  /-- ACK WATCH: the event of the next channel of the range (R120). -/
  | ackWatchChannel
  /-- WRITE RULES (R128). -/
  | writeRules
  /-- READ RULES (R128). -/
  | readRules
  /-- WRITE CHAIN (R78). -/
  | writeChain
  /-- READ CHAIN (R92). -/
  | readChain
  /-- WRITE MAP (R94). -/
  | writeMap
  /-- READ MAP (R94). -/
  | readMap
  /-- SET DEFAULT VERDICT (R129). -/
  | setDefaultVerdict
  /-- READ DEFAULT VERDICT (R129). -/
  | readDefaultVerdict
  /-- COPY BANK: the take, which begins the long operation (R137, R138). -/
  | copyBank
  /-- COPY BANK: the completion (R137, R138). -/
  | copyBankComplete
  /-- CLEAR STAGING: the take, which begins the long operation (R137, R139). -/
  | clearStaging
  /-- CLEAR STAGING: the completion (R137, R139). -/
  | clearStagingComplete
  /-- ARM SWAP with a Trigger other than MARKER (R132, R133). -/
  | armSwapNext
  /-- ARM SWAP with the Trigger MARKER (R132, R134). -/
  | armSwapMarker
  /-- CANCEL SWAP (R135). -/
  | cancelSwap
  /-- SET QUEUE LIMITS (R103). -/
  | setQueueLimits
  /-- SET NOTICE MASK (R161). -/
  | setNoticeMask
  /-- READ COUNTERS with a Clear other than YES (R162). -/
  | readCounters
  /-- READ COUNTERS with Clear YES (R163). -/
  | readCountersClear
  /-- RESTART TRAFFIC (R164). -/
  | restartTraffic
  deriving DecidableEq, Repr

end Sys2Proof

namespace Sys2Proof.Machine

/-! ## Values of the tables and contexts -/

/-- The State of a channel: CLOSED, OPEN or QUARANTINED (R39). -/
inductive ChannelState where
  | closed
  | opened
  | quarantined
  deriving DecidableEq, Repr

/-- A map as a verdict, an Override or a chain names it: IDENTITY or a map number (R56, R93). -/
inductive MapSelect where
  | identity
  | map (n : Fin Config.maps)
  deriving DecidableEq, Repr

/-- The Action of a Verdict (R56). -/
inductive Action where
  | forward
  | drop
  | quarantine
  deriving DecidableEq, Repr

/-- A Verdict (R56). -/
structure Verdict where
  action    : Action
  queue     : QueueId
  map       : MapSelect
  tag       : Fin 16
  heartbeat : Bool
  deriving DecidableEq, Repr

/-- One Compare Value with its Care Mask (R53). -/
structure KeyPair where
  compare : Byte
  care    : Byte
  deriving DecidableEq, Repr

/-- A Pattern: eight key pairs and a Length Range (R54). -/
structure Pattern where
  pairs     : Vector KeyPair Config.keyBytes
  minLength : Nat
  maxLength : Nat
  deriving DecidableEq, Repr

/-- A Rule Entry; `valid` is its Valid part, true for VALID and false for EMPTY (R55). -/
structure RuleEntry where
  valid   : Bool
  pattern : Pattern
  verdict : Verdict
  deriving DecidableEq, Repr

/-- A step of a chain: a rule index or ANY (R76). -/
inductive ChainStep where
  | rule (i : RuleIndex)
  | any
  deriving DecidableEq, Repr

/-- The Mode of a chain (R85, R86). -/
inductive ChainMode where
  | strict
  | lenient
  deriving DecidableEq, Repr

/-- The Completion Action of a chain (R84). -/
inductive CompletionAction where
  | noticeOnly
  | quarantine
  | close
  | override
  deriving DecidableEq, Repr

/-- A chain definition. The Step Count is the number of `steps`; no steps is the undefined chain (R76). The Window is in
ms. -/
structure ChainDef where
  steps       : List ChainStep
  mode        : ChainMode
  window      : Nat
  action      : CompletionAction
  actionMap   : MapSelect
  actionCount : Nat
  notify      : Bool
  deriving DecidableEq, Repr

/-- An entry of a Translation Map: an Out Kind or DROP (R93). -/
inductive MapEntry where
  | out (kind : Byte)
  | drop
  deriving DecidableEq, Repr

/-- The Silence Action of a channel (R112). -/
inductive SilenceAction where
  | none
  | quarantine
  | close
  deriving DecidableEq, Repr

/-- One assignment of a MODIFY CONTEXT (Section 3.5). A Watch Limit or Chain Binding of `none` is OFF or NONE. -/
inductive Assignment where
  | state (v : ChannelState)
  | chainBinding (v : Option ChainId)
  | watchLimit (v : Option Nat)
  | silenceAction (v : SilenceAction)
  | notify (v : Bool)
  | override (map : MapSelect) (count : Nat)
  deriving DecidableEq, Repr

/-- A Rule Ref: the index of the entry that judged a record, FEh for the Default Verdict, FFh for the quarantine path
(R72). -/
inductive RuleRef where
  | rule (i : RuleIndex)
  | defaultVerdict
  | quarantinePath
  deriving DecidableEq, Repr

/-! ## Records between the blocks -/

/-- A DATA_DOWN record as an entry of the Outbound FIFO; its Length is that of `body` (R33). -/
structure DownRecord where
  channel : Channel
  kind    : Byte
  body    : List Byte
  deriving DecidableEq, Repr

/-- A REQUEST as an entry of the Request FIFO; its Length is that of `params` (R153). -/
structure Request where
  number  : Word16
  command : Byte
  params  : List Byte
  deriving DecidableEq, Repr

/-- The Status of a response (10.4). -/
inductive Status where
  | ok
  | unknownCommand
  | badLength
  | badRange
  | stagingFrozen
  | swapArmed
  | notArmed
  deriving DecidableEq, Repr

/-- A response; its Length is that of `results` (R158). -/
structure Response where
  number  : Word16
  command : Byte
  status  : Status
  results : List Byte
  deriving DecidableEq, Repr

/-- The kinds of notice (9.4). -/
inductive NoticeKind where
  | restarted
  | lineChange
  | late
  | silent
  | revived
  | chainDone
  | swapDone
  | queueDrop
  | poolDrop
  | noticeLoss
  deriving DecidableEq, Repr

/-- A notice: its kind, its Subject byte and its 4-byte Detail (9.4). -/
structure Notice where
  kind    : NoticeKind
  subject : Byte
  detail  : Word32
  deriving DecidableEq, Repr

end Sys2Proof.Machine
end

