-- ==== Sys2Proof/WellFormed.lean ====
section
/-! DEFINITION. The ranges that the types of Syntax.lean leave open, as checks. The operands of a command itself (a link, a
byte, a channel, the level of a strap) have types that hold exactly their values, so every term of `Instr` is well formed;
the checks here are on the values that requests carry into the tables and contexts, and on the records between the blocks. -/

namespace Sys2Proof.Machine

/-- The Min Length and Max Length of a Pattern are 0 to 248 (R54). -/
def Pattern.wf (p : Pattern) : Bool :=
  decide (p.minLength ≤ Config.maxBody) && decide (p.maxLength ≤ Config.maxBody)

/-- A rule entry with its Pattern in range (R128). -/
def RuleEntry.wf (e : RuleEntry) : Bool := e.pattern.wf

/-- A chain has no step or 2 to 8 steps, a Window of 0 to 60,000 ms and an Action Count of 1 to 15 (R78). -/
def ChainDef.wf (c : ChainDef) : Bool :=
  (c.steps.isEmpty || (decide (2 ≤ c.steps.length) && decide (c.steps.length ≤ 8)))
    && decide (c.window ≤ 60000) && decide (1 ≤ c.actionCount) && decide (c.actionCount ≤ 15)

/-- A Watch Limit is OFF or 1 to 59,999 ms (Section 3.1). -/
def watchLimitWf : Option Nat → Bool
  | none => true
  | some n => decide (1 ≤ n) && decide (n < Config.silenceThreshold)

/-- The value of an assignment lies in the range of its field (Section 3.5). -/
def Assignment.wf : Assignment → Bool
  | .state _ => true
  | .chainBinding _ => true
  | .watchLimit v => watchLimitWf v
  | .silenceAction _ => true
  | .notify _ => true
  | .override _ count => decide (count ≤ 15)

/-- A DATA_DOWN entry has a body of at most 248 bytes (R33). -/
def DownRecord.wf (d : DownRecord) : Bool := decide (d.body.length ≤ Config.maxBody)

/-- A request has a Length of at most 248 (R153). -/
def Request.wf (r : Request) : Bool := decide (r.params.length ≤ Config.maxBody)

/-- A response has a Length of at most 248, and one with a Status other than OK a Length of 0 (R158). -/
def Response.wf (r : Response) : Bool :=
  decide (r.results.length ≤ Config.maxBody) && (r.status == .ok || r.results.isEmpty)

end Sys2Proof.Machine
end

