-- ==== Sys2Proof/Machine/State.lean ====
section
/-! DEFINITION. The state of the part: every register, list, buffer, counter and mode that the manual names, as plain data,
with the value each has right after power-on reset. Derived views (ALERT, the free count, the depths, the Last Request
Number, the byte on a transmit line) are functions of it in Ops.lean and Formats.lean (log entry 14). -/

namespace Sys2Proof.Machine

/-! ## The links and the Timebase (Section 1) -/

/-- The Timebase: the 32-bit microsecond count (R16) and the divider of the millisecond tick, 0 to 999 (R17). -/
structure Timebase where
  count   : Word32
  divider : Nat
  deriving DecidableEq, Repr

/-- A line monitor: DOWN with its Fill Run (R6), or UP with the microseconds since the last received byte (R7). -/
inductive LineMonitor where
  | down (fillRun : Nat)
  | up (silence : Nat)
  deriving DecidableEq, Repr

/-- The state of the field receiver (1.2). `slot` is the slot the record is received into, `none` while a record is skipped
for want of a slot (R8). `got` counts the header bytes received, `left` the body bytes to come, and `first` is the first
Check byte once it has come. -/
inductive FieldPhase where
  | hunt
  | header (slot : Option SlotId) (got : Nat)
  | body (slot : Option SlotId) (left : Nat)
  | check (slot : Option SlotId) (first : Option Byte)
  deriving DecidableEq, Repr

/-- The field receiver: the last byte received (R3) and the receiver state. -/
structure FieldReceiver where
  last  : Option Byte
  phase : FieldPhase
  deriving DecidableEq, Repr

/-- The known Class values of an uplink record (R11): two the host sends and three of the part's own. -/
inductive RecordClass where
  | dataUp
  | response
  | notice
  | dataDown
  | request
  deriving DecidableEq, Repr

/-- The state of the uplink receiver (1.2). `classByte` is HEADER before the Class byte; `got` counts the header bytes
received, the Class byte among them. -/
inductive UplinkPhase where
  | hunt
  | classByte
  | header (cls : RecordClass) (got : Nat)
  | body (cls : RecordClass) (left : Nat)
  | check (cls : RecordClass) (first : Option Byte)
  deriving DecidableEq, Repr

/-- The uplink receiver: the last byte received (R3), the receiver state, and the receive staging (1.5), which holds the
bytes of a DATA_DOWN or REQUEST from its Class byte to the end of its body (log entry 10). -/
structure UplinkReceiver where
  last    : Option Byte
  phase   : UplinkPhase
  staging : List Byte
  deriving DecidableEq, Repr

/-- The field transmitter: idle, or sending the bytes of a record from its start code to its last Check byte, with the
microseconds since the send started (R13; log entry 13). -/
inductive FieldTransmitter where
  | idle
  | sending (bytes : List Byte) (elapsed : Nat)
  deriving DecidableEq, Repr

/-- What the uplink transmitter was granted (R14): a response, a notice, or the SENDING slot. -/
inductive Grant where
  | response
  | notice
  | slot (i : SlotId)
  deriving DecidableEq, Repr

/-- The uplink transmitter: idle, or sending the bytes of the granted record (R14; log entry 13). -/
inductive UplinkTransmitter where
  | idle
  | sending (grant : Grant) (bytes : List Byte) (elapsed : Nat)
  deriving DecidableEq, Repr

/-! ## The Slot Pool (Section 2) -/

/-- A field record while it is received: its Arrival Stamp, the header bytes received so far (Channel, Kind, Length in that
order) and the body bytes received so far (R8, R20). -/
structure PartialRecord where
  stamp  : Word32
  header : List Byte
  body   : List Byte
  deriving DecidableEq, Repr

/-- A good field record in a slot; its Length is that of `body` (R20). -/
structure UpRecord where
  stamp   : Word32
  channel : Channel
  kind    : Byte
  body    : List Byte
  deriving DecidableEq, Repr

/-- The DATA_UP contents written at the completion of classification (R20, R99). -/
structure UpContents where
  outKind    : Byte
  tag        : Fin 16
  generation : Byte
  ruleRef    : RuleRef
  deriving DecidableEq, Repr

/-- A record slot in one of its five states, with the items that state holds (R19, R20). -/
inductive Slot where
  | free
  | receiving (r : PartialRecord)
  | waiting (r : UpRecord) (inClassification : Bool)
  | queued (r : UpRecord) (queue : QueueId) (up : UpContents)
  | sending (r : UpRecord) (queue : QueueId) (up : UpContents)
  deriving DecidableEq, Repr

/-- A Forward Queue: its QUEUED slots from head to tail, and its Limit (R100). -/
structure ForwardQueue where
  slots : List SlotId
  limit : Nat
  deriving DecidableEq, Repr

/-! ## Channel contexts (Sections 3, 5 and 7) -/

/-- The phase of a channel's watch (R109). -/
inductive WatchPhase where
  | off
  | idle
  | running
  | overdue
  | silent
  deriving DecidableEq, Repr

/-- One channel's context: the seven configuration fields (R35), the status fields (3.2) and the four counters (R51). -/
structure Context where
  state         : ChannelState
  chainBinding  : Option ChainId
  watchLimit    : Option Nat
  silenceAction : SilenceAction
  notify        : Bool
  overrideMap   : MapSelect
  overrideCount : Nat
  chainProgress : Nat
  chainDeadline : Option Word32
  watchPhase    : WatchPhase
  gapCount      : Nat
  lastGap       : Option Nat
  late          : Bool
  held          : Bool
  new           : Bool
  lastRuleRef   : Option RuleRef
  classified    : Word32
  forwarded     : Word32
  dropped       : Word32
  downSent      : Word32
  deriving DecidableEq, Repr

/-- The power-on value of a context whose State begins as `st` (R36 and the tables of 3.1 and 3.2). -/
def Context.powerOn (st : ChannelState) : Context where
  state := st
  chainBinding := none
  watchLimit := none
  silenceAction := .none
  notify := true
  overrideMap := .identity
  overrideCount := 0
  chainProgress := 0
  chainDeadline := none
  watchPhase := .off
  gapCount := 0
  lastGap := none
  late := false
  held := false
  new := false
  lastRuleRef := none
  classified := 0#32
  forwarded := 0#32
  dropped := 0#32
  downSent := 0#32

/-! ## The Bank Store and the Classifier (Sections 4, 5, 6 and 8) -/

/-- The two banks by letter (R125). -/
inductive BankId where
  | a
  | b
  deriving DecidableEq, Repr

/-- A table bank (R125). -/
structure Bank where
  rules          : Vector RuleEntry Config.rules
  chains         : Vector ChainDef Config.chains
  maps           : Vector (Vector MapEntry Config.kinds) Config.maps
  defaultVerdict : Verdict
  deriving DecidableEq, Repr

/-- The empty value of a Verdict: FORWARD, Queue 3, IDENTITY, Tag 0, Heartbeat NO (R55, R57). -/
def Verdict.empty : Verdict where
  action := .forward
  queue := 3
  map := .identity
  tag := 0
  heartbeat := false

/-- The empty value of a rule entry (R55). -/
def RuleEntry.empty : RuleEntry where
  valid := false
  pattern := { pairs := Vector.replicate Config.keyBytes ⟨0#8, 0#8⟩, minLength := 0, maxLength := Config.maxBody }
  verdict := Verdict.empty

/-- The empty value of a chain definition (R77). -/
def ChainDef.empty : ChainDef where
  steps := []
  mode := .strict
  window := 0
  action := .noticeOnly
  actionMap := .identity
  actionCount := 1
  notify := false

/-- The empty value of a Translation Map: the identity (R93). -/
def identityMap : Vector MapEntry Config.kinds := Vector.ofFn fun k => .out (BitVec.ofNat 8 k.val)

/-- The empty value of a bank (R126). -/
def Bank.empty : Bank where
  rules := Vector.replicate Config.rules RuleEntry.empty
  chains := Vector.replicate Config.chains ChainDef.empty
  maps := Vector.replicate Config.maps identityMap
  defaultVerdict := Verdict.empty

/-- The Swap State (R130). -/
inductive SwapState where
  | idle
  | armedNext
  | armedMarker (marker : RuleIndex)
  deriving DecidableEq, Repr

/-- The Classifier: IDLE, or BUSY with the slot it took, its Bank Used and its Generation Used (4.5). -/
inductive Classifier where
  | idle
  | busy (slot : SlotId) (bankUsed : BankId) (generationUsed : Byte)
  deriving DecidableEq, Repr

/-! ## Notices and management (Sections 9 and 10) -/

/-- The Notice Mask: one enable for each maskable kind (R146). -/
structure NoticeMask where
  lineChange : Bool
  late       : Bool
  silent     : Bool
  revived    : Bool
  chainDone  : Bool
  swapDone   : Bool
  queueDrop  : Bool
  poolDrop   : Bool
  deriving DecidableEq, Repr

/-- The state of the Management Engine (10.2): IDLE, or BUSY with the request in hand. For a range request, `left` holds the
channels whose events are still to come, in ascending order (R48); for a long operation, `elapsed` the microseconds since
it began (R137). -/
inductive Engine where
  | idle
  | modifying (request : Request) (assignments : List Assignment) (left : List Channel)
  | acking (request : Request) (left : List Channel)
  | copying (request : Request) (elapsed : Nat)
  | clearing (request : Request) (elapsed : Nat)
  deriving DecidableEq, Repr

/-- The 23 global counters (10.6). -/
structure Counters where
  fieldRxGood     : Word32
  fieldCheckErr   : Word32
  fieldFormatErr  : Word32
  fieldLineAbort  : Word32
  uplinkRxGood    : Word32
  uplinkCheckErr  : Word32
  uplinkFormatErr : Word32
  uplinkLineAbort : Word32
  badClass        : Word32
  downFull        : Word32
  downClosed      : Word32
  reqDrop         : Word32
  poolDrop        : Word32
  mapDrop         : Word32
  queueFull       : Vector Word32 Config.queues
  sent            : Vector Word32 Config.queues
  noticeLost      : Word32
  deriving DecidableEq, Repr

/-- Every global counter at 0 (R18, R32, R106, R149). -/
def Counters.zero : Counters where
  fieldRxGood := 0#32
  fieldCheckErr := 0#32
  fieldFormatErr := 0#32
  fieldLineAbort := 0#32
  uplinkRxGood := 0#32
  uplinkCheckErr := 0#32
  uplinkFormatErr := 0#32
  uplinkLineAbort := 0#32
  badClass := 0#32
  downFull := 0#32
  downClosed := 0#32
  reqDrop := 0#32
  poolDrop := 0#32
  mapDrop := 0#32
  queueFull := Vector.replicate Config.queues 0#32
  sent := Vector.replicate Config.queues 0#32
  noticeLost := 0#32

/-! ## The whole part -/

/-- The state of the part. `resetHeld` says that RESET is held low (R31). `watchClaims` and `windowClaims` are the tick claims
and the window expiries (with the Timebase value of their tick) that a tick has raised and the Context Table has not yet
taken (R88, R110; log entry 6). `stored` is the Stored Response, whose number is the Last Request Number (R155). `pending`
is the queue of commands that wait, first in, first out. -/
structure State where
  resetHeld    : Bool
  timebase     : Timebase
  fieldMonitor  : LineMonitor
  uplinkMonitor : LineMonitor
  fieldRx      : FieldReceiver
  uplinkRx     : UplinkReceiver
  fieldTx      : FieldTransmitter
  uplinkTx     : UplinkTransmitter
  slots        : Vector Slot Config.slots
  classifyFifo : List SlotId
  outbound     : List DownRecord
  contexts     : Vector Context Config.channels
  watchClaims  : List Channel
  windowClaims : List (Channel × Word32)
  classifier   : Classifier
  queues       : Vector ForwardQueue Config.queues
  bankA        : Bank
  bankB        : Bank
  active       : BankId
  generation   : Byte
  swap         : SwapState
  responses    : List Response
  notices      : List Notice
  noticeMask   : NoticeMask
  noticeNumber : Word16
  requestFifo  : List Request
  engine       : Engine
  stored       : Option Response
  counters     : Counters
  pending      : List Instr
  deriving DecidableEq, Repr

/-- A command never faults: the manual gives every event of the part an effect and names no event that stops it. The type
has no constructor, so no step can answer a fault (log entry 1). -/
inductive Fault where
  deriving DecidableEq, Repr

/-- Why a command has no meaning in the model. -/
inductive Refusal where
  /-- Raised by an arm of `exec` whose command has no meaning yet; safe. No arm of this model raises it. -/
  | notModelled (mnemonic : String)
  deriving DecidableEq, Repr

/-- The part right after power-on reset, with RESET still held low: every item at its power-on value, both lines DOWN, all
slots FREE, every list empty, Bank A active at Generation 0 and both banks empty (R6, R16, R17, R31, R34, R107, R126, R150,
R167). The State of a channel is set at RESET_RELEASE (R36); until then CLOSED stands for it. DESIGN CHOICE, log entry 2. -/
def State.reset : State where
  resetHeld := true
  timebase := ⟨0#32, 0⟩
  fieldMonitor := .down 0
  uplinkMonitor := .down 0
  fieldRx := ⟨none, .hunt⟩
  uplinkRx := ⟨none, .hunt, []⟩
  fieldTx := .idle
  uplinkTx := .idle
  slots := Vector.replicate Config.slots .free
  classifyFifo := []
  outbound := []
  contexts := Vector.replicate Config.channels (Context.powerOn .closed)
  watchClaims := []
  windowClaims := []
  classifier := .idle
  queues := Vector.replicate Config.queues ⟨[], 48⟩
  bankA := Bank.empty
  bankB := Bank.empty
  active := .a
  generation := 0#8
  swap := .idle
  responses := []
  notices := []
  noticeMask := ⟨true, true, true, true, true, true, true, true⟩
  noticeNumber := 0#16
  requestFifo := []
  engine := .idle
  stored := none
  counters := Counters.zero
  pending := []

end Sys2Proof.Machine
end

