-- ==== Sys2Proof/Machine/Formats.lean ====
section
/-! DEFINITION. The byte layouts of Section 11: multi-byte fields, the Check, the codes of named values, the entries of the
tables, and the records the two transmitters send. -/

namespace Sys2Proof.Machine

/-! ## Multi-byte fields: high byte first (Section 11) -/

/-- The byte of a value below 256. -/
def byteOf (n : Nat) : Byte := BitVec.ofNat 8 n

/-- A two-byte field, high byte first. -/
def bytes16 (w : Word16) : List Byte := [w.extractLsb' 8 8, w.extractLsb' 0 8]

/-- A four-byte field, high byte first. -/
def bytes32 (w : Word32) : List Byte :=
  [w.extractLsb' 24 8, w.extractLsb' 16 8, w.extractLsb' 8 8, w.extractLsb' 0 8]

/-- The value of two bytes, high byte first. -/
def word16 (hi lo : Byte) : Word16 := hi ++ lo

/-- The value of four bytes, high byte first. -/
def word32 (b3 b2 b1 b0 : Byte) : Word32 := b3 ++ b2 ++ b1 ++ b0

/-! ## The Check (R2) -/

/-- One bit of the division by x^16 + x^12 + x^5 + 1, most significant bit first (R2). -/
def checkShift (reg : Word16) : Word16 :=
  if reg.msb then (reg <<< 1) ^^^ 0x1021#16 else reg <<< 1

/-- The Check register after one more byte (R2). -/
def checkByte (reg : Word16) (b : Byte) : Word16 :=
  checkShift (checkShift (checkShift (checkShift (checkShift (checkShift (checkShift (checkShift
    (reg ^^^ (b.setWidth 16 <<< 8)))))))))

/-- The Check of the bytes after a start code, from the initial value FFFFh, with no final inversion (R2). -/
def checkOf (bytes : List Byte) : Word16 := bytes.foldl checkByte 0xFFFF#16

/-- The second Check byte `lo` after the first `hi` makes a record of these bytes good (R2). -/
def checkGood (bytes : List Byte) (hi lo : Byte) : Bool := checkOf bytes == word16 hi lo

/-- A record on the line: the start code, the bytes, and their Check high byte first (R1, R2). -/
def frameRecord (bytes : List Byte) : List Byte := Config.startCode :: (bytes ++ bytes16 (checkOf bytes))

/-! ## Codes of named values (11.2) -/

/-- A State (11.2). -/
def ChannelState.code : ChannelState → Byte
  | .closed => 0x00#8
  | .opened => 0x01#8
  | .quarantined => 0x02#8

/-- A map number, FFh for IDENTITY (11.2). -/
def MapSelect.code : MapSelect → Byte
  | .map n => byteOf n.val
  | .identity => 0xFF#8

/-- A Chain Binding: a chain number, FFh for NONE (11.2). -/
def chainBindingCode : Option ChainId → Byte
  | some n => byteOf n.val
  | none => 0xFF#8

/-- A Silence Action (11.2). -/
def SilenceAction.code : SilenceAction → Byte
  | .none => 0x00#8
  | .quarantine => 0x01#8
  | .close => 0x02#8

/-- OFF, NO or EMPTY as 00h; ON, YES or VALID as 01h (11.2). The tables of 11.2 give LATE, HELD and NEW no codes: that these
are 00h when clear and 01h when set is the model's choice (DESIGN CHOICE, log entry 22). -/
def flagCode (b : Bool) : Byte := if b then 0x01#8 else 0x00#8

/-- An Action (11.2). -/
def Action.code : Action → Byte
  | .forward => 0x00#8
  | .drop => 0x01#8
  | .quarantine => 0x02#8

/-- A Watch Phase (11.2). -/
def WatchPhase.code : WatchPhase → Byte
  | .off => 0x00#8
  | .idle => 0x01#8
  | .running => 0x02#8
  | .overdue => 0x03#8
  | .silent => 0x04#8

/-- A bank by letter, as READ STATUS, ARM SWAP and SWAP_DONE carry it (11.2). -/
def BankId.code : BankId → Byte
  | .a => 0x00#8
  | .b => 0x01#8

/-- A Swap State (11.2). -/
def SwapState.code : SwapState → Byte
  | .idle => 0x00#8
  | .armedNext => 0x01#8
  | .armedMarker _ => 0x02#8

/-- The Marker Rule as READ STATUS returns it: FFh for NONE (11.2). -/
def SwapState.markerCode : SwapState → Byte
  | .armedMarker i => byteOf i.val
  | _ => 0xFF#8

/-- A line state: DOWN or UP (11.2). -/
def LineMonitor.code : LineMonitor → Byte
  | .down _ => 0x00#8
  | .up _ => 0x01#8

/-- A Chain Mode (11.2). -/
def ChainMode.code : ChainMode → Byte
  | .strict => 0x00#8
  | .lenient => 0x01#8

/-- A Completion Action (11.2). -/
def CompletionAction.code : CompletionAction → Byte
  | .noticeOnly => 0x00#8
  | .quarantine => 0x01#8
  | .close => 0x02#8
  | .override => 0x03#8

/-- A chain step: a rule index, FFh for ANY (11.2). -/
def ChainStep.code : ChainStep → Byte
  | .rule i => byteOf i.val
  | .any => 0xFF#8

/-- A Rule Ref: a rule index, FEh or FFh (R72, 11.2). -/
def RuleRef.code : RuleRef → Byte
  | .rule i => byteOf i.val
  | .defaultVerdict => 0xFE#8
  | .quarantinePath => 0xFF#8

/-- The Last Rule Ref: FDh for NONE (11.2). -/
def lastRuleRefCode : Option RuleRef → Byte
  | some r => r.code
  | none => 0xFD#8

/-- A Status (10.4, 11.2). -/
def Status.code : Status → Byte
  | .ok => 0x00#8
  | .unknownCommand => 0x01#8
  | .badLength => 0x02#8
  | .badRange => 0x03#8
  | .stagingFrozen => 0x04#8
  | .swapArmed => 0x05#8
  | .notArmed => 0x06#8

/-- A notice kind (9.4, 11.2). -/
def NoticeKind.code : NoticeKind → Byte
  | .restarted => 0x01#8
  | .lineChange => 0x02#8
  | .late => 0x03#8
  | .silent => 0x04#8
  | .revived => 0x05#8
  | .chainDone => 0x06#8
  | .swapDone => 0x07#8
  | .queueDrop => 0x08#8
  | .poolDrop => 0x09#8
  | .noticeLoss => 0x0A#8

/-- The Subject of a LINE_CHANGE: 0 for the field link, 1 for the uplink (R6). -/
def linkSubject : Link → Byte
  | .field => 0x00#8
  | .uplink => 0x01#8

/-! ## Entries (11.3) and two-byte forms (11.2) -/

/-- The Watch Limit in ms, 0000h for OFF. -/
def watchLimitBytes (v : Option Nat) : List Byte := bytes16 (BitVec.ofNat 16 (v.getD 0))

/-- The Gap Count, or the Window, in ms. -/
def millisBytes (n : Nat) : List Byte := bytes16 (BitVec.ofNat 16 n)

/-- The Last Gap, FFFFh for NONE. -/
def lastGapBytes : Option Nat → List Byte
  | some n => bytes16 (BitVec.ofNat 16 n)
  | none => [0xFF#8, 0xFF#8]

/-- The Chain Deadline: a presence byte, then the time, 00000000h for NONE. -/
def deadlineBytes : Option Word32 → List Byte
  | some t => 0x01#8 :: bytes32 t
  | none => 0x00#8 :: bytes32 0#32

/-- A Verdict in five bytes. -/
def Verdict.bytes (v : Verdict) : List Byte :=
  [v.action.code, byteOf v.queue.val, v.map.code, byteOf v.tag.val, flagCode v.heartbeat]

/-- A Compare Value followed by its Care Mask. -/
def KeyPair.bytes (p : KeyPair) : List Byte := [p.compare, p.care]

/-- A rule entry in 24 bytes. -/
def RuleEntry.bytes (e : RuleEntry) : List Byte :=
  flagCode e.valid :: (e.pattern.pairs.toList.flatMap KeyPair.bytes
    ++ [byteOf e.pattern.minLength, byteOf e.pattern.maxLength] ++ e.verdict.bytes)

/-- The eight step bytes of a chain; those beyond the Step Count are 00h (R172). -/
def chainStepBytes (steps : List ChainStep) : List Byte :=
  (List.range 8).map fun k => (steps[k]?).elim 0x00#8 ChainStep.code

/-- A chain definition in 16 bytes. -/
def ChainDef.bytes (c : ChainDef) : List Byte :=
  byteOf c.steps.length :: (chainStepBytes c.steps ++ [c.mode.code] ++ millisBytes c.window
    ++ [c.action.code, c.actionMap.code, byteOf c.actionCount, flagCode c.notify])

/-- A map entry in two bytes. -/
def MapEntry.bytes : MapEntry → List Byte
  | .out k => [0x00#8, k]
  | .drop => [0x01#8, 0x00#8]

/-! ## The records sent (11.1) -/

/-- A field record toward a station: Channel, Kind, Length and body (R13). -/
def DownRecord.bytes (d : DownRecord) : List Byte :=
  [byteOf d.channel.val, d.kind, byteOf d.body.length] ++ d.body

/-- A DATA_UP record (Class 01h) of a classified slot (R99). -/
def dataUpBytes (r : UpRecord) (u : UpContents) : List Byte :=
  [0x01#8, byteOf r.channel.val, u.outKind, byteOf u.tag.val, u.generation, u.ruleRef.code]
    ++ bytes32 r.stamp ++ [byteOf r.body.length] ++ r.body

/-- A RESPONSE record (Class 02h). -/
def Response.bytes (r : Response) : List Byte :=
  [0x02#8] ++ bytes16 r.number ++ [r.command, r.status.code, byteOf r.results.length] ++ r.results

/-- A NOTICE record (Class 03h) with its Notice Number (R144). -/
def Notice.bytes (number : Word16) (n : Notice) : List Byte :=
  [0x03#8] ++ bytes16 number ++ [n.kind.code, n.subject] ++ bytes32 n.detail

/-! ## What is on the transmit lines -/

/-- The byte a transmitter sends in the microsecond `elapsed` after its start code: the record's bytes, then fill (R1). -/
def lineByte (bytes : List Byte) (elapsed : Nat) : Byte := bytes.getD elapsed Config.fillCode

/-- The byte on the field transmit line (R1, R13). While RESET is held the transmitter is idle, and that it sends fill then is
the model's choice (log entry 21). -/
def FieldTransmitter.line : FieldTransmitter → Byte
  | .idle => Config.fillCode
  | .sending bytes elapsed => lineByte bytes elapsed

/-- The byte on the uplink transmit line (R1, R14). While RESET is held the transmitter is idle, and that it sends fill then is
the model's choice (log entry 21). -/
def UplinkTransmitter.line : UplinkTransmitter → Byte
  | .idle => Config.fillCode
  | .sending _ bytes elapsed => lineByte bytes elapsed

end Sys2Proof.Machine
end

