-- ==== Sys2Proof/Machine/Operands.lean ====
section
/-! DEFINITION. The Parameters of every request: how their bytes are read (11.2 to 11.4, R171 to R173), and the tests of the
Length and of the ranges, in the order of R157. The tests of the Swap State stand with the commands that make them. -/

namespace Sys2Proof.Machine

/-! ## Named values in Parameters (R171) -/

/-- A byte as an index below `n`. -/
def indexOf (n : Nat) (b : Byte) : Option (Fin n) :=
  if h : b.toNat < n then some ⟨b.toNat, h⟩ else none

/-- The State codes (11.2). -/
def parseState (b : Byte) : Option ChannelState :=
  if b = 0x00#8 then some .closed
  else if b = 0x01#8 then some .opened
  else if b = 0x02#8 then some .quarantined
  else none

/-- A map number, or FFh for IDENTITY (11.2). -/
def parseMap (b : Byte) : Option MapSelect :=
  if b = 0xFF#8 then some .identity else (indexOf Config.maps b).map .map

/-- A chain number, or FFh for NONE (11.2). -/
def parseChainBinding (b : Byte) : Option (Option ChainId) :=
  if b = 0xFF#8 then some none else (indexOf Config.chains b).map some

/-- The Silence Action codes (11.2). -/
def parseSilenceAction (b : Byte) : Option SilenceAction :=
  if b = 0x00#8 then some .none
  else if b = 0x01#8 then some .quarantine
  else if b = 0x02#8 then some .close
  else none

/-- 00h for OFF, NO or EMPTY, 01h for ON, YES or VALID (11.2). -/
def parseFlag (b : Byte) : Option Bool :=
  if b = 0x00#8 then some false else if b = 0x01#8 then some true else none

/-- The Action codes (11.2). -/
def parseAction (b : Byte) : Option Action :=
  if b = 0x00#8 then some .forward
  else if b = 0x01#8 then some .drop
  else if b = 0x02#8 then some .quarantine
  else none

/-- The Chain Mode codes (11.2). -/
def parseMode (b : Byte) : Option ChainMode :=
  if b = 0x00#8 then some .strict else if b = 0x01#8 then some .lenient else none

/-- The Completion Action codes (11.2). -/
def parseCompletionAction (b : Byte) : Option CompletionAction :=
  if b = 0x00#8 then some .noticeOnly
  else if b = 0x01#8 then some .quarantine
  else if b = 0x02#8 then some .close
  else if b = 0x03#8 then some .override
  else none

/-- A chain step: a rule index, or FFh for ANY (11.2). -/
def parseStep (b : Byte) : Option ChainStep :=
  if b = 0xFF#8 then some .any else (indexOf Config.rules b).map .rule

/-- A bank selector: `true` for ACTIVE (00h), `false` for STAGING (01h) (R125). -/
def parseRole (b : Byte) : Option Bool :=
  if b = 0x00#8 then some true else if b = 0x01#8 then some false else none

/-- The value of a two-byte field. -/
def pairValue (hi lo : Byte) : Nat := (word16 hi lo).toNat

/-! ## Lists in Parameters -/

/-- `count` items of `size` bytes each from the front of a byte list. -/
def chunks (size : Nat) : Nat → List Byte → List (List Byte)
  | 0, _ => []
  | count + 1, bytes => bytes.take size :: chunks size count (bytes.drop size)

/-- Every item read, or nothing when one of them cannot be. -/
def parseAll {α β : Type} (parse : α → Option β) : List α → Option (List β)
  | [] => some []
  | x :: xs =>
    match parse x, parseAll parse xs with
    | some y, some ys => some (y :: ys)
    | _, _ => none

/-- The test of the Length, then the tests of the ranges (R157). -/
def checked {α : Type} (lengthOk : Bool) (value : Option α) : Except Status α :=
  if lengthOk then
    match value with
    | some v => .ok v
    | none => .error .badRange
  else .error .badLength

/-- A Length of `fixed` bytes and one to `most` items of `size` bytes (R157). -/
def listLengthOk (fixed size most length : Nat) : Bool :=
  decide (length = fixed + size * ((length - fixed) / size)) && decide (1 ≤ (length - fixed) / size)
    && decide ((length - fixed) / size ≤ most)

/-! ## The requests -/

/-- A request without Parameters accepts only a Length of 0 (R157). -/
def validEmpty (ps : List Byte) : Except Status Unit := checked ps.isEmpty (some ())

/-- One channel (R50, R119). -/
def validChannel (ps : List Byte) : Except Status Channel :=
  checked (ps.length == 1) (indexOf Config.channels (ps.getD 0 0#8))

/-- First Channel and Last Channel, the first not above the last (R157). -/
def parseRange (first last : Byte) : Option (Channel × Channel) :=
  match indexOf Config.channels first, indexOf Config.channels last with
  | some f, some l => if f ≤ l then some (f, l) else none
  | _, _ => none

/-- ACK WATCH: a range of channels (R120). -/
def validAckWatch (ps : List Byte) : Except Status (Channel × Channel) :=
  checked (ps.length == 2) (parseRange (ps.getD 0 0#8) (ps.getD 1 0#8))

/-- A Watch Limit: 0 for OFF, or 1 to 59,999 ms (R171). -/
def parseWatchLimit (n : Nat) : Option (Option Nat) :=
  if n = 0 then some none else if n < Config.silenceThreshold then some (some n) else none

/-- One assignment: a field code and two value bytes, the second 00h for a one-byte field (R172, R173). -/
def parseAssignment : List Byte → Option Assignment
  | [code, v, w] =>
    if code = 0x03#8 then (parseWatchLimit (pairValue v w)).map .watchLimit
    else if code = 0x06#8 then
      match parseMap v with
      | some m => if w.toNat ≤ 15 then some (.override m w.toNat) else none
      | none => none
    else if w ≠ 0x00#8 then none
    else if code = 0x01#8 then (parseState v).map .state
    else if code = 0x02#8 then (parseChainBinding v).map .chainBinding
    else if code = 0x04#8 then (parseSilenceAction v).map .silenceAction
    else if code = 0x05#8 then (parseFlag v).map .notify
    else none
  | _ => none

/-- An assignment list that repeats no field code (R47). -/
def parseAssignments (items : List (List Byte)) : Option (List Assignment) :=
  if (items.map fun it => it.getD 0 0#8).Nodup then parseAll parseAssignment items else none

/-- MODIFY CONTEXT: two channels and one to six whole assignments (R47). -/
def validModifyContext (ps : List Byte) : Except Status ((Channel × Channel) × List Assignment) :=
  checked (listLengthOk 2 3 6 ps.length)
    (match parseRange (ps.getD 0 0#8) (ps.getD 1 0#8),
      parseAssignments (chunks 3 ((ps.length - 2) / 3) (ps.drop 2)) with
    | some range, some list => some (range, list)
    | _, _ => none)

/-- A Verdict from its five bytes (11.3, R128). -/
def parseVerdict (bs : List Byte) : Option Verdict :=
  match parseAction (bs.getD 0 0#8), indexOf Config.queues (bs.getD 1 0#8), parseMap (bs.getD 2 0#8),
      indexOf 16 (bs.getD 3 0#8), parseFlag (bs.getD 4 0#8) with
  | some action, some queue, some map, some tag, some heartbeat =>
    some { action := action, queue := queue, map := map, tag := tag, heartbeat := heartbeat }
  | _, _, _, _, _ => none

/-- The eight key pairs of a rule entry's 24 bytes; every value is taken (R128). -/
def parsePairs (bs : List Byte) : Vector KeyPair Config.keyBytes :=
  Vector.ofFn fun j => { compare := bs.getD (1 + 2 * j.val) 0#8, care := bs.getD (2 + 2 * j.val) 0#8 }

/-- A rule entry from its 24 bytes (11.3, R128). -/
def parseRule (bs : List Byte) : Option RuleEntry :=
  match parseFlag (bs.getD 0 0#8), parseVerdict (bs.drop 19) with
  | some valid, some verdict =>
    if (bs.getD 17 0#8).toNat ≤ Config.maxBody ∧ (bs.getD 18 0#8).toNat ≤ Config.maxBody then
      some {
        valid := valid
        pattern := {
          pairs := parsePairs bs
          minLength := (bs.getD 17 0#8).toNat
          maxLength := (bs.getD 18 0#8).toNat }
        verdict := verdict }
    else none
  | _, _ => none

/-- WRITE RULES: a Start Index and one to eight whole entries that end within the list (R128). -/
def validWriteRules (ps : List Byte) : Except Status (Nat × List RuleEntry) :=
  checked (listLengthOk 1 24 8 ps.length)
    (if (ps.getD 0 0#8).toNat + (ps.length - 1) / 24 ≤ Config.rules then
      (parseAll parseRule (chunks 24 ((ps.length - 1) / 24) (ps.drop 1))).map fun entries =>
        ((ps.getD 0 0#8).toNat, entries)
    else none)

/-- READ RULES: a bank, a Start Index and a count of 1 to 8 that end within the list (R128). -/
def validReadRules (ps : List Byte) : Except Status (Bool × Nat × Nat) :=
  checked (ps.length == 3)
    (match parseRole (ps.getD 0 0#8) with
    | some role =>
      if 1 ≤ (ps.getD 2 0#8).toNat ∧ (ps.getD 2 0#8).toNat ≤ 8
          ∧ (ps.getD 1 0#8).toNat + (ps.getD 2 0#8).toNat ≤ Config.rules then
        some (role, (ps.getD 1 0#8).toNat, (ps.getD 2 0#8).toNat)
      else none
    | none => none)

/-- A chain definition from its 16 bytes. With a Step Count of 0 it is the empty value and no other byte is examined; with
2 to 8, only the steps below the Step Count are (R77, R78, R172). -/
def parseChain (bs : List Byte) : Option ChainDef :=
  let count := (bs.getD 0 0#8).toNat
  if count = 0 then some ChainDef.empty
  else if count < 2 ∨ 8 < count then none
  else
    match parseAll parseStep ((bs.drop 1).take count), parseMode (bs.getD 9 0#8),
        parseCompletionAction (bs.getD 12 0#8), parseMap (bs.getD 13 0#8), parseFlag (bs.getD 15 0#8) with
    | some steps, some mode, some action, some map, some notify =>
      if pairValue (bs.getD 10 0#8) (bs.getD 11 0#8) ≤ 60000
          ∧ 1 ≤ (bs.getD 14 0#8).toNat ∧ (bs.getD 14 0#8).toNat ≤ 15 then
        some {
          steps := steps
          mode := mode
          window := pairValue (bs.getD 10 0#8) (bs.getD 11 0#8)
          action := action
          actionMap := map
          actionCount := (bs.getD 14 0#8).toNat
          notify := notify }
      else none
    | _, _, _, _, _ => none

/-- WRITE CHAIN: a chain number and a definition (R78). -/
def validWriteChain (ps : List Byte) : Except Status (ChainId × ChainDef) :=
  checked (ps.length == 17)
    (match indexOf Config.chains (ps.getD 0 0#8), parseChain (ps.drop 1) with
    | some number, some definition => some (number, definition)
    | _, _ => none)

/-- READ CHAIN: a bank and a chain number (R92). -/
def validReadChain (ps : List Byte) : Except Status (Bool × ChainId) :=
  checked (ps.length == 2)
    (match parseRole (ps.getD 0 0#8), indexOf Config.chains (ps.getD 1 0#8) with
    | some role, some number => some (role, number)
    | _, _ => none)

/-- A map entry: 00h and an Out Kind, or 01h for DROP with the second byte not examined (R172). -/
def parseMapEntry : List Byte → Option MapEntry
  | [form, kind] => if form = 0x00#8 then some (.out kind) else if form = 0x01#8 then some .drop else none
  | _ => none

/-- WRITE MAP: a map number, a Start Kind and 1 to 64 entries that end within the map (R94). -/
def validWriteMap (ps : List Byte) : Except Status (Fin Config.maps × Nat × List MapEntry) :=
  checked (listLengthOk 2 2 64 ps.length)
    (match indexOf Config.maps (ps.getD 0 0#8),
      parseAll parseMapEntry (chunks 2 ((ps.length - 2) / 2) (ps.drop 2)) with
    | some number, some entries =>
      if (ps.getD 1 0#8).toNat + (ps.length - 2) / 2 ≤ Config.kinds then
        some (number, (ps.getD 1 0#8).toNat, entries)
      else none
    | _, _ => none)

/-- READ MAP: a bank, a map number, a Start Kind and a count of 1 to 64 that end within the map (R94). -/
def validReadMap (ps : List Byte) : Except Status (Bool × Fin Config.maps × Nat × Nat) :=
  checked (ps.length == 4)
    (match parseRole (ps.getD 0 0#8), indexOf Config.maps (ps.getD 1 0#8) with
    | some role, some number =>
      if 1 ≤ (ps.getD 3 0#8).toNat ∧ (ps.getD 3 0#8).toNat ≤ 64
          ∧ (ps.getD 2 0#8).toNat + (ps.getD 3 0#8).toNat ≤ Config.kinds then
        some (role, number, (ps.getD 2 0#8).toNat, (ps.getD 3 0#8).toNat)
      else none
    | _, _ => none)

/-- SET DEFAULT VERDICT: one Verdict (R129). -/
def validSetDefaultVerdict (ps : List Byte) : Except Status Verdict :=
  checked (ps.length == 5) (parseVerdict ps)

/-- READ DEFAULT VERDICT: a bank (R129). -/
def validReadDefaultVerdict (ps : List Byte) : Except Status Bool :=
  checked (ps.length == 1) (parseRole (ps.getD 0 0#8))

/-- ARM SWAP whose Trigger byte is not MARKER: the Trigger NEXT in a Length of 1 (R132, R173). -/
def validArmNext (ps : List Byte) : Except Status Unit :=
  checked (ps.length == 1 || (ps.length == 2 && ps.getD 0 0#8 != 0x01#8))
    (if ps.getD 0 0#8 = 0x01#8 then some () else none)

/-- ARM SWAP with the Trigger MARKER: a Marker Rule index in a Length of 2 (R132, R173). -/
def validArmMarker (ps : List Byte) : Except Status RuleIndex :=
  checked (ps.length == 2) (indexOf Config.rules (ps.getD 1 0#8))

/-- One Limit of a Forward Queue, 1 to 64 (R103). -/
def parseLimit (b : Byte) : Option Nat :=
  if 1 ≤ b.toNat ∧ b.toNat ≤ 64 then some b.toNat else none

/-- SET QUEUE LIMITS: four Limits, Queue 0 first (R103). -/
def validQueueLimits (ps : List Byte) : Except Status (List Nat) :=
  checked (ps.length == 4) (parseAll parseLimit ps)

/-- SET NOTICE MASK: eight enables (R161). -/
def validNoticeMask (ps : List Byte) : Except Status NoticeMask :=
  checked (ps.length == 8)
    (match parseAll parseFlag ps with
    | some [a, b, c, d, e, f, g, h] => some ⟨a, b, c, d, e, f, g, h⟩
    | _ => none)

/-- READ COUNTERS: the Scope, `none` for GLOBAL and a channel for CHANNEL, and whether to clear. The Channel is not examined
for GLOBAL (R162). -/
def validReadCounters (ps : List Byte) : Except Status (Option Channel × Bool) :=
  checked (ps.length == 3)
    (match parseFlag (ps.getD 2 0#8) with
    | some clear =>
      if ps.getD 0 0#8 = 0x00#8 then some (none, clear)
      else if ps.getD 0 0#8 = 0x01#8 then (indexOf Config.channels (ps.getD 1 0#8)).map fun ch => (some ch, clear)
      else none
    | none => none)

/-! ## Which row takes a request -/

/-- The row of the opcode table that takes a request which is not a duplicate, by its Command code (11.2); ARM SWAP is told
apart by its Trigger byte and READ COUNTERS by its Clear byte (log entry 4). -/
def rowOf (r : Request) : Instr :=
  match r.command.toNat with
  | 0x01 => .identify
  | 0x02 => .readStatus
  | 0x03 => .readContext
  | 0x04 => .modifyContext
  | 0x05 => .readWatch
  | 0x06 => .ackWatch
  | 0x10 => .writeRules
  | 0x11 => .readRules
  | 0x12 => .writeChain
  | 0x13 => .readChain
  | 0x14 => .writeMap
  | 0x15 => .readMap
  | 0x16 => .setDefaultVerdict
  | 0x17 => .readDefaultVerdict
  | 0x18 => .copyBank
  | 0x19 => .clearStaging
  | 0x1A => if r.params[0]? = some 0x02#8 then .armSwapMarker else .armSwapNext
  | 0x1B => .cancelSwap
  | 0x20 => .setQueueLimits
  | 0x21 => .setNoticeMask
  | 0x22 => if r.params[2]? = some 0x01#8 then .readCountersClear else .readCounters
  | 0x30 => .restartTraffic
  | _ => .unknownCommandRequest

end Sys2Proof.Machine
end

