-- ==== Sys2Proof/Machine/Ops.lean ====
section
/-! DEFINITION. The operations the blocks share: the registers of the Context Table and the Slot Pool, the roles of the banks,
raising a notice, appending a response, taking a request, the closing side effects and the swap. -/

namespace Sys2Proof.Machine

/-! ## Events -/

/-- An event of the part: nothing happens while RESET is held low (R31, 11.5), else the event's next state. -/
def live (s next : State) : Host.Outcome State Fault Refusal :=
  .next (if s.resetHeld then s else next)

/-- A counter's increment is `c + 1`, which wraps from 4,294,967,295 to 0 (R18). -/
def count (c : Word32) : Word32 := c + 1#32

/-! ## The Context Table and the Slot Pool -/

/-- One channel's context. -/
def State.context (s : State) (ch : Channel) : Context := s.contexts[ch]

/-- One channel's context written (R43). -/
def State.setContext (s : State) (ch : Channel) (c : Context) : State :=
  { s with contexts := s.contexts.set ch c }

/-- One slot of the pool. -/
def State.slot (s : State) (i : SlotId) : Slot := s.slots[i]

/-- One slot written. -/
def State.setSlot (s : State) (i : SlotId) (x : Slot) : State :=
  { s with slots := s.slots.set i x }

/-- The slot is FREE. -/
def Slot.isFree : Slot → Bool
  | .free => true
  | _ => false

/-- The slot is WAITING. -/
def Slot.isWaiting : Slot → Bool
  | .waiting _ _ => true
  | _ => false

/-- The slot is QUEUED. -/
def Slot.isQueued : Slot → Bool
  | .queued _ _ _ => true
  | _ => false

/-- The lowest-numbered FREE slot (R21). -/
def lowestFree (slots : Vector Slot Config.slots) : Option SlotId :=
  (List.finRange Config.slots).find? fun i => slots[i].isFree

/-- The free count (R19). -/
def freeCount (s : State) : Nat := (s.slots.toList.filter Slot.isFree).length

/-- The depth of a Forward Queue (R100). -/
def ForwardQueue.depth (q : ForwardQueue) : Nat := q.slots.length

/-! ## The banks by role (R125) -/

/-- The other bank. -/
def BankId.other : BankId → BankId
  | .a => .b
  | .b => .a

/-- A bank by letter. -/
def State.bank (s : State) : BankId → Bank
  | .a => s.bankA
  | .b => s.bankB

/-- The bank that is ACTIVE. -/
def State.activeBank (s : State) : Bank := s.bank s.active

/-- The bank that is STAGING. -/
def State.stagingBank (s : State) : Bank := s.bank s.active.other

/-- The bank a reader names: ACTIVE for `true`, STAGING for `false`. -/
def State.roleBank (s : State) (role : Bool) : Bank := if role then s.activeBank else s.stagingBank

/-- The staging bank written whole. -/
def State.setStaging (s : State) (b : Bank) : State :=
  match s.active with
  | .a => { s with bankB := b }
  | .b => { s with bankA := b }

/-- A swap is armed: ARMED_NEXT or ARMED_MARKER (R136). -/
def SwapState.armed : SwapState → Bool
  | .idle => false
  | _ => true

/-! ## Notices (Section 9) -/

/-- The kind is raised under this mask; RESTARTED and NOTICE_LOSS have no enable (R146). -/
def NoticeMask.enables (m : NoticeMask) : NoticeKind → Bool
  | .restarted => true
  | .lineChange => m.lineChange
  | .late => m.late
  | .silent => m.silent
  | .revived => m.revived
  | .chainDone => m.chainDone
  | .swapDone => m.swapDone
  | .queueDrop => m.queueDrop
  | .poolDrop => m.poolDrop
  | .noticeLoss => true

/-- A pending notice `p` that gathers a raise of `n`: a QUEUE_DROP for the same queue, or a POOL_DROP (R147, R148). -/
def Notice.gathers (n p : Notice) : Bool :=
  match n.kind with
  | .queueDrop => p.kind == .queueDrop && p.subject == n.subject
  | .poolDrop => p.kind == .poolDrop
  | _ => false

/-- A Detail raised by one, which stops at 4,294,967,295 (R148, R149). -/
def countUp (d : Word32) : Word32 := if d = 0xFFFFFFFF#32 then d else d + 1#32

/-- One more raise counted in a notice's Detail. -/
def Notice.bump (p : Notice) : Notice := { p with detail := countUp p.detail }

/-- The notice is NOTICE_LOSS. -/
def Notice.isLoss (p : Notice) : Bool := p.kind == .noticeLoss

/-- The notices that the 15 ordinary places hold (R145). -/
def ordinaryCount (queue : List Notice) : Nat := (queue.filter fun p => !p.isLoss).length

/-- NOTICE_LOSS with a Detail of 1 (R149). -/
def firstLoss : Notice := ⟨.noticeLoss, 0x00#8, 1#32⟩

/-- The queue after a loss: the pending NOTICE_LOSS counts it, or one is appended (R149). -/
def recordLoss (queue : List Notice) : List Notice :=
  if queue.any Notice.isLoss then queue.map fun p => if p.isLoss then p.bump else p
  else queue ++ [firstLoss]

/-- What the Notice Queue does with a raised notice, in the order of R147. -/
inductive NoticeFate where
  | masked
  | gathered
  | lost
  | entered
  deriving DecidableEq, Repr

/-- The step of R147 at which a raised notice ends. -/
def noticeFate (mask : NoticeMask) (queue : List Notice) (n : Notice) : NoticeFate :=
  if mask.enables n.kind = false then .masked
  else if queue.any n.gathers then .gathered
  else if Config.ordinaryNotices ≤ ordinaryCount queue then .lost
  else .entered

/-- The Notice Queue after a raised notice (R147 to R149). -/
def offerNotice (mask : NoticeMask) (queue : List Notice) (n : Notice) : List Notice :=
  match noticeFate mask queue n with
  | .masked => queue
  | .gathered => queue.map fun p => if n.gathers p then p.bump else p
  | .lost => recordLoss queue
  | .entered => queue ++ [n]

/-- NOTICE_LOST after a raised notice: it rises when the notice is lost (R149). -/
def lostAfter (mask : NoticeMask) (queue : List Notice) (n : Notice) (lost : Word32) : Word32 :=
  if noticeFate mask queue n = .lost then count lost else lost

/-- A block raises a notice (R147). -/
def State.raise (s : State) (n : Notice) : State :=
  { s with
    notices := offerNotice s.noticeMask s.notices n
    counters := { s.counters with noticeLost := lostAfter s.noticeMask s.notices n s.counters.noticeLost } }

/-- Several notices raised in the order given. -/
def State.raiseAll (s : State) (ns : List Notice) : State := ns.foldl State.raise s

/-- The Subject of a notice about a channel. -/
def channelSubject (ch : Channel) : Byte := byteOf ch.val

/-- RESTARTED with cause POWER_ON (R150). -/
def restartedPowerOn : Notice := ⟨.restarted, 0x00#8, 1#32⟩

/-- RESTARTED with cause COMMAND (R150). -/
def restartedCommand : Notice := ⟨.restarted, 0x00#8, 2#32⟩

/-- LINE_CHANGE of a link, with the new state UP or DOWN (R6, R7). -/
def lineChange (link : Link) (up : Bool) : Notice := ⟨.lineChange, linkSubject link, if up then 1#32 else 0#32⟩

/-- POOL_DROP as it is raised (R22). -/
def poolDropNotice : Notice := ⟨.poolDrop, 0x00#8, 1#32⟩

/-- QUEUE_DROP of a queue as it is raised (R101). -/
def queueDropNotice (q : QueueId) : Notice := ⟨.queueDrop, byteOf q.val, 1#32⟩

/-- LATE with the Watch Limit as its Detail (R111). -/
def lateNotice (ch : Channel) (limit : Nat) : Notice := ⟨.late, channelSubject ch, BitVec.ofNat 32 limit⟩

/-- SILENT with the Silence Action as its Detail (R112). -/
def silentNotice (ch : Channel) (a : SilenceAction) : Notice := ⟨.silent, channelSubject ch, a.code.setWidth 32⟩

/-- REVIVED with the State as its Detail (R117). -/
def revivedNotice (ch : Channel) (st : ChannelState) : Notice := ⟨.revived, channelSubject ch, st.code.setWidth 32⟩

/-- CHAIN_DONE with the chain number as its Detail (R83). -/
def chainDoneNotice (ch : Channel) (n : ChainId) : Notice := ⟨.chainDone, channelSubject ch, BitVec.ofNat 32 n.val⟩

/-- LATE, SILENT, REVIVED and CHAIN_DONE are raised only when the channel's Notify is ON (R46). -/
def Context.gated (c : Context) (n : Notice) : List Notice := if c.notify then [n] else []

/-! ## ALERT (R151) -/

/-- The line monitor is UP. -/
def LineMonitor.isUp : LineMonitor → Bool
  | .up _ => true
  | .down _ => false

/-- ALERT is asserted: RESET is not held, the uplink is DOWN and the Notice Queue is not empty (R151). -/
def State.alert (s : State) : Bool := !s.resetHeld && !s.uplinkMonitor.isUp && !s.notices.isEmpty

/-! ## Context events shared by several rules -/

/-- The chain run ends: Progress 0 and Deadline NONE (R88, R90, R91). -/
def Context.clearRun (c : Context) : Context := { c with chainProgress := 0, chainDeadline := none }

/-- The watch stops: phase OFF and Gap Count 0 (R40, R109). -/
def Context.watchOff (c : Context) : Context := { c with watchPhase := .off, gapCount := 0 }

/-- The watch starts: phase IDLE and Gap Count 0 (R41, R49). -/
def Context.watchStart (c : Context) : Context := { c with watchPhase := .idle, gapCount := 0 }

/-- The closing side effects (R40). -/
def Context.closingEffects (c : Context) : Context := c.watchOff.clearRun

/-- The State becomes CLOSED, with the closing side effects when it was not CLOSED before (R39, R40). -/
def Context.close (c : Context) : Context :=
  if c.state = .closed then c else { c with state := .closed }.closingEffects

/-- The State becomes QUARANTINED; a change from OPEN has no side effect (R41). -/
def Context.quarantined (c : Context) : Context := { c with state := .quarantined }

/-! ## The swap (R131) -/

/-- What performed a swap: ARM SWAP NEXT, or a marker record of a channel with its Marker Rule. -/
inductive SwapTrigger where
  | next
  | marker (ch : Channel) (rule : RuleIndex)
  deriving DecidableEq, Repr

/-- SWAP_DONE of a swap that brings a generation and an active bank (R131, 11.2). -/
def swapDoneNotice (t : SwapTrigger) (generation : Byte) (active : BankId) : Notice :=
  match t with
  | .next => ⟨.swapDone, 0xFF#8, word32 generation 0x01#8 active.code 0xFF#8⟩
  | .marker ch rule => ⟨.swapDone, channelSubject ch, word32 generation 0x02#8 active.code (byteOf rule.val)⟩

/-- A swap: the pointer, the Generation Number, every chain run, the Swap State, then SWAP_DONE (R131). -/
def State.performSwap (s : State) (t : SwapTrigger) : State :=
  { s with
    active := s.active.other
    generation := s.generation + 1#8
    contexts := s.contexts.map Context.clearRun
    swap := .idle }.raise (swapDoneNotice t (s.generation + 1#8) s.active.other)

/-! ## Requests and responses (Sections 9 and 10) -/

/-- The Last Request Number: the number of the Stored Response, NONE when there is none (R155). -/
def State.lastNumber (s : State) : Option Word16 := s.stored.map Response.number

/-- The response to a request (R158). -/
def Request.answer (r : Request) (status : Status) (results : List Byte) : Response :=
  { number := r.number, command := r.command, status := status, results := results }

/-- The response is appended, becomes the Stored Response, and the engine becomes IDLE (R154, R155). -/
def State.respond (s : State) (r : Request) (status : Status) (results : List Byte) : State :=
  { s with
    responses := s.responses ++ [r.answer status results]
    stored := some (r.answer status results)
    engine := .idle }

/-- The engine can take the head of the Request FIFO: it is IDLE and fewer than 4 responses are pending (R143, R154). -/
def State.engineReady (s : State) : Bool :=
  s.engine == .idle && decide (s.responses.length < Config.responseCapacity)

/-- The row that takes a request: DUPLICATE_REQUEST when its number is the Last Request Number (R155), else the row of its
Command. -/
def State.rowFor (s : State) (r : Request) : Instr :=
  if s.lastNumber = some r.number then .duplicateRequest else rowOf r

/-- The take of a request by the row `row`: when the engine is ready and the head of the Request FIFO is a request of that
row, the entry leaves the FIFO and `act` follows in the same event (R154). Otherwise the event does not occur and nothing
changes (log entry 3). -/
def State.takeAs (s : State) (row : Instr) (act : Request → State → State) : State :=
  match s.requestFifo with
  | [] => s
  | r :: rest =>
    if s.engineReady ∧ s.rowFor r = row then act r { s with requestFifo := rest } else s

/-- A validated request: the refusal is answered with no results (R157), a request that passes goes on. -/
def answerChecked {α : Type} (v : Except Status α) (r : Request) (s : State) (act : α → State) : State :=
  match v with
  | .error status => s.respond r status []
  | .ok a => act a

end Sys2Proof.Machine
end

