-- ==== Sys2Proof/Machine/Flags.lean ====
section
/-! DEFINITION. The Silence Watch (Section 7): the phases, the Gap Count and the flags LATE, HELD and NEW, as ticks, expiries
and heartbeats change them. Each event answers the new context and the notices it raises, in order. -/

namespace Sys2Proof.Machine

/-! ## Expiries -/

/-- A limit expiry: phase OVERDUE, and LATE set with its notice when it was clear (R111). `limit` is the Watch Limit in
force. -/
def limitExpiry (ch : Channel) (limit : Nat) (c : Context) : Context × List Notice :=
  ({ c with watchPhase := .overdue, late := true },
    if c.late then [] else c.gated (lateNotice ch limit))

/-- The Silence Action applied to the State (R112). -/
def Context.silenceAct (c : Context) : Context :=
  match c.silenceAction with
  | .none => c
  | .quarantine => if c.state = .opened then c.quarantined else c
  | .close => c.close

/-- A silence expiry: phase SILENT, the SILENT notice, then the Silence Action (R112). -/
def silenceExpiry (ch : Channel) (c : Context) : Context × List Notice :=
  ({ c with watchPhase := .silent, gapCount := Config.silenceThreshold }.silenceAct,
    c.gated (silentNotice ch c.silenceAction))

/-! ## Ticks -/

/-- The watch of a channel runs: RUNNING or OVERDUE (R110). -/
def WatchPhase.ticks : WatchPhase → Bool
  | .running => true
  | .overdue => true
  | _ => false

/-- The tick raises the Gap Count of a RUNNING channel above its Watch Limit (R111). -/
def Context.limitReached (c : Context) : Bool :=
  match c.watchPhase, c.watchLimit with
  | .running, some limit => decide (limit < c.gapCount + 1)
  | _, _ => false

/-- The tick raises the Gap Count of a RUNNING or OVERDUE channel to 60,000 (R112). -/
def Context.silenceReached (c : Context) : Bool :=
  c.watchPhase.ticks && decide (c.gapCount + 1 = Config.silenceThreshold)

/-- The Gap Count raised by one, with the limit expiry that it brings (R110, R111). -/
def tickLimit (ch : Channel) (c : Context) : Context × List Notice :=
  if c.limitReached then limitExpiry ch (c.watchLimit.getD 0) { c with gapCount := c.gapCount + 1 }
  else ({ c with gapCount := c.gapCount + 1 }, [])

/-- A tick claim on a channel: the Gap Count rises in RUNNING and OVERDUE, then a limit expiry, then a silence expiry, each
when the new count brings it; in the other phases nothing changes (R110 to R113). -/
def tickClaim (ch : Channel) (c : Context) : Context × List Notice :=
  if c.watchPhase.ticks then
    if c.silenceReached then
      ((silenceExpiry ch (tickLimit ch c).1).1, (tickLimit ch c).2 ++ (silenceExpiry ch (tickLimit ch c).1).2)
    else tickLimit ch c
  else (c, [])

/-! ## Heartbeats -/

/-- Last Gap captured with NEW, unless HELD is set (R115 to R117). -/
def Context.captureGap (c : Context) (gap : Nat) : Context :=
  if c.held then c else { c with lastGap := some gap, new := true }

/-- The interval ends: phase RUNNING and Gap Count 0. -/
def Context.restartInterval (c : Context) : Context := { c with watchPhase := .running, gapCount := 0 }

/-- A heartbeat, in the phase it finds (R114 to R117). `st` is the State read at the start of the completion event. -/
def heartbeat (ch : Channel) (st : ChannelState) (c : Context) : Context × List Notice :=
  match c.watchPhase with
  | .off => (c, [])
  | .idle => (c.restartInterval, [])
  | .running => ((c.captureGap c.gapCount).restartInterval, [])
  | .overdue => ({ c.captureGap c.gapCount with held := true }.restartInterval, [])
  | .silent =>
    ({ c.captureGap Config.silenceThreshold with held := true }.restartInterval, c.gated (revivedNotice ch st))

end Sys2Proof.Machine
end

