-- ==== Sys2Proof/Machine/Classify.lean ====
section
/-! DEFINITION. The Classifier (Section 4), the Chain Unit's step test (Section 5), translation and the Forward Queues
(Section 6): what one classification makes of a record, a context and the tables, and the two events of a classification. -/

namespace Sys2Proof.Machine

/-! ## The Key Window and the Pattern (4.1, 4.2) -/

/-- Key byte `j` of a record: K0 the Channel, K1 the Kind, K(j) body byte j − 2, `none` when ABSENT (R52). -/
def keyByte (r : UpRecord) (j : Nat) : Option Byte :=
  match j with
  | 0 => some (byteOf r.channel.val)
  | 1 => some r.kind
  | k + 2 => r.body[k]?

/-- A key byte matches its pair; an ABSENT one only a Care Mask of 00h (R53). -/
def KeyPair.matches (p : KeyPair) : Option Byte → Bool
  | some k => k &&& p.care == p.compare &&& p.care
  | none => p.care == 0x00#8

/-- A Pattern matches a record: all eight pairs and the Length Range (R54). -/
def Pattern.matches (p : Pattern) (r : UpRecord) : Bool :=
  ((List.finRange Config.keyBytes).all fun j => p.pairs[j].matches (keyByte r j.val))
    && decide (p.minLength ≤ r.body.length) && decide (r.body.length ≤ p.maxLength)

/-- The entry is VALID and its Pattern matches the record. -/
def RuleEntry.claims (e : RuleEntry) (r : UpRecord) : Bool := e.valid && e.pattern.matches r

/-! ## The search (4.4) -/

/-- The first VALID entry, in ascending index, whose Pattern matches (R58). -/
def searchRules (b : Bank) (r : UpRecord) : Option RuleIndex :=
  (List.finRange Config.rules).find? fun i => b.rules[i].claims r

/-- The record's verdict and Rule Ref: of the matching entry, else of the Default Verdict (R57, R58). -/
def verdictOf (b : Bank) (r : UpRecord) : Verdict × RuleRef :=
  match searchRules b r with
  | some i => (b.rules[i].verdict, .rule i)
  | none => (b.defaultVerdict, .defaultVerdict)

/-! ## The chain step (Section 5) -/

/-- The step test: ANY matches, a rule index matches by a VALID entry's Pattern (R81). -/
def stepMatches (b : Bank) (r : UpRecord) : ChainStep → Bool
  | .any => true
  | .rule i => b.rules[i].claims r

/-- The record matches step `p` of a chain. -/
def ChainDef.matchesAt (d : ChainDef) (b : Bank) (r : UpRecord) (p : Nat) : Bool :=
  match d.steps[p]? with
  | some st => stepMatches b r st
  | none => false

/-- The Deadline an advance sets: a full Window from now, or NONE for a Window of 0 (R82). -/
def ChainDef.deadline (d : ChainDef) (now : Word32) : Option Word32 :=
  if d.window = 0 then none else some (now + BitVec.ofNat 32 (d.window * 1000))

/-- The run stands at Progress `p` from now (R82). -/
def Context.advance (c : Context) (d : ChainDef) (now : Word32) (p : Nat) : Context :=
  { c with chainProgress := p, chainDeadline := d.deadline now }

/-- The outcomes of an evaluation (5.4). -/
inductive StepOutcome where
  | advanced
  | completed
  | restarted
  | broken
  | passedOver
  deriving DecidableEq, Repr

/-- What an evaluation of step `p` comes to (R82, R83, R85, R86). -/
def stepOutcome (d : ChainDef) (b : Bank) (r : UpRecord) (p : Nat) : StepOutcome :=
  if d.matchesAt b r p then
    if p + 1 < d.steps.length then .advanced else .completed
  else
    match d.mode with
    | .lenient => .passedOver
    | .strict => if 0 < p ∧ d.matchesAt b r 0 then .restarted else .broken

/-- The chain the channel's binding names, when it is defined in the bank (R80). -/
def Context.boundChain (c : Context) (b : Bank) : Option (ChainId × ChainDef) :=
  match c.chainBinding with
  | none => none
  | some n => if b.chains[n].steps.isEmpty then none else some (n, b.chains[n])

/-- The run after the evaluation of a record (R82, R83, R85, R86). -/
def Context.afterStep (c : Context) (d : ChainDef) (now : Word32) : StepOutcome → Context
  | .advanced => c.advance d now (c.chainProgress + 1)
  | .completed => c.clearRun
  | .restarted => c.advance d now 1
  | .broken => c.clearRun
  | .passedOver => c

/-- What the chain step of a completion leaves: the context with its run, the action of a completed chain, and the notices. -/
structure ChainResult where
  context   : Context
  completed : Option ChainDef
  notices   : List Notice
  deriving DecidableEq, Repr

/-- The chain step of a completion on an OPEN channel (R80 to R86). -/
def chainStep (b : Bank) (now : Word32) (r : UpRecord) (c : Context) : ChainResult :=
  match c.boundChain b with
  | none => ⟨c, none, []⟩
  | some (n, d) =>
    match stepOutcome d b r c.chainProgress with
    | .completed =>
      ⟨c.afterStep d now .completed, some d, if d.notify then c.gated (chainDoneNotice r.channel n) else []⟩
    | o => ⟨c.afterStep d now o, none, []⟩

/-! ## The action of the verdict (4.7, 4.8, Section 6) -/

/-- What becomes of the record before its queue is asked: dropped, dropped by a map, or offered to a queue with its DATA_UP
contents. -/
inductive Disposal where
  | drop
  | mapDrop
  | offer (queue : QueueId) (up : UpContents)
  deriving DecidableEq, Repr

/-- The DATA_UP contents of the quarantine path (R63). -/
def quarantineContents (r : UpRecord) (generation : Byte) (ref : RuleRef) : UpContents :=
  { outKind := r.kind, tag := 15, generation := generation, ruleRef := ref }

/-- The map that governs a record: the Override Map while the Override Count is above 0, else the verdict's (R95). -/
def Context.governingMap (c : Context) (v : Verdict) : MapSelect :=
  if 0 < c.overrideCount then c.overrideMap else v.map

/-- A Kind translated through a map of the bank (R95). -/
def translateKind (b : Bank) (kind : Byte) : MapSelect → MapEntry
  | .identity => .out kind
  | .map n => b.maps[n][kind.toFin]

/-- The Action of a verdict on an OPEN channel (R66 to R68). -/
def applyAction (b : Bank) (generation : Byte) (v : Verdict) (ref : RuleRef) (r : UpRecord) (c : Context) : Disposal :=
  match v.action with
  | .drop => .drop
  | .quarantine => .offer 3 (quarantineContents r generation ref)
  | .forward =>
    match translateKind b r.kind (c.governingMap v) with
    | .drop => .mapDrop
    | .out k => .offer v.queue { outKind := k, tag := v.tag, generation := generation, ruleRef := ref }

/-- The Override Count after a verdict: a FORWARD record lowers it by one when it is above 0 (R96). -/
def Context.overrideUsed (c : Context) (v : Verdict) : Context :=
  match v.action with
  | .forward => { c with overrideCount := c.overrideCount - 1 }
  | _ => c

/-- The verdict QUARANTINE sets the State (R68). -/
def Context.verdictState (c : Context) (v : Verdict) : Context :=
  match v.action with
  | .quarantine => c.quarantined
  | _ => c

/-- The Completion Action of a completed chain (R84); it comes last, so that CLOSE wins over a QUARANTINE verdict and OVERRIDE
writes over the decrement (R42). -/
def Context.chainAction (c : Context) : Option ChainDef → Context
  | none => c
  | some d =>
    match d.action with
    | .noticeOnly => c
    | .quarantine => c.quarantined
    | .close => c.close
    | .override => { c with overrideMap := d.actionMap, overrideCount := d.actionCount }

/-! ## The outcome of a completion (R61) -/

/-- The outcome of a record: the context with everything but the counters, the notices raised before the queue is asked, the
disposal, and whether the record is the marker. -/
structure Judged where
  context  : Context
  notices  : List Notice
  disposal : Disposal
  marker   : Bool
  deriving DecidableEq, Repr

/-- The record matches the marker entry's Pattern while the Swap State is ARMED_MARKER (R70). -/
def markerTest (b : Bank) (swap : SwapState) (r : UpRecord) : Bool :=
  match swap with
  | .armedMarker i => b.rules[i].pattern.matches r
  | _ => false

/-- The heartbeat of a record on an OPEN channel, delivered when its verdict asks for it (R69). -/
def openHeartbeat (v : Verdict) (ch : Channel) (c : Context) : Context × List Notice :=
  if v.heartbeat = true ∨ v.action = .quarantine then heartbeat ch .opened c else (c, [])

/-- A completion on an OPEN channel (R42, R65). -/
def judgeOpen (b : Bank) (generation : Byte) (now : Word32) (swap : SwapState) (r : UpRecord) (c : Context) : Judged :=
  let verdict := verdictOf b r
  let step := chainStep b now r c
  let beat := openHeartbeat verdict.1 r.channel step.context
  { context :=
      { ((beat.1.overrideUsed verdict.1).verdictState verdict.1).chainAction step.completed with
        lastRuleRef := some verdict.2 }
    notices := step.notices ++ beat.2
    disposal := applyAction b generation verdict.1 verdict.2 r c
    marker := markerTest b swap r }

/-- A completion on a QUARANTINED channel: the quarantine path with Rule Ref FFh (R63, R64). -/
def judgeQuarantined (generation : Byte) (r : UpRecord) (c : Context) : Judged :=
  { context := { (heartbeat r.channel .quarantined c).1 with lastRuleRef := some .quarantinePath }
    notices := (heartbeat r.channel .quarantined c).2
    disposal := .offer 3 (quarantineContents r generation .quarantinePath)
    marker := false }

/-- A completion on a CLOSED channel: the record is dropped (R62). -/
def judgeClosed (c : Context) : Judged :=
  { context := c, notices := [], disposal := .drop, marker := false }

/-- The outcome chosen by the State read at the completion (R61). -/
def judge (b : Bank) (generation : Byte) (now : Word32) (swap : SwapState) (r : UpRecord) (c : Context) : Judged :=
  match c.state with
  | .closed => judgeClosed c
  | .quarantined => judgeQuarantined generation r c
  | .opened => judgeOpen b generation now swap r c

/-- CLASSIFIED, with FORWARDED for a placed record and DROPPED for a dropped one (R51). -/
def Context.counted (c : Context) (placed : Bool) : Context :=
  if placed then { c with classified := count c.classified, forwarded := count c.forwarded }
  else { c with classified := count c.classified, dropped := count c.dropped }

/-! ## The events -/

/-- The queue takes the slot: its depth is below its Limit (R101). -/
def ForwardQueue.accepts (q : ForwardQueue) : Bool := decide (q.depth < q.limit)

/-- A slot appended at the tail. -/
def ForwardQueue.append (q : ForwardQueue) (i : SlotId) : ForwardQueue := { q with slots := q.slots ++ [i] }

/-- The slot's moves at a completion (R25): out of the Classify FIFO, and to FREE or to the tail of a queue. -/
def State.dispose (s : State) (i : SlotId) (r : UpRecord) : Disposal → State
  | .drop => { s with classifyFifo := s.classifyFifo.erase i, slots := s.slots.set i .free }
  | .mapDrop =>
    { s with
      classifyFifo := s.classifyFifo.erase i
      slots := s.slots.set i .free
      counters := { s.counters with mapDrop := count s.counters.mapDrop } }
  | .offer q up =>
    if s.queues[q].accepts then
      { s with
        classifyFifo := s.classifyFifo.erase i
        slots := s.slots.set i (.queued r q up)
        queues := s.queues.set q (s.queues[q].append i) }
    else
      { s with
        classifyFifo := s.classifyFifo.erase i
        slots := s.slots.set i .free
        counters := { s.counters with queueFull := s.counters.queueFull.set q (count s.counters.queueFull[q]) } }

/-- The disposal places the record in a queue (R101). -/
def State.places (s : State) : Disposal → Bool
  | .offer q _ => s.queues[q].accepts
  | _ => false

/-- The QUEUE_DROP that a disposal raises, when the queue refuses the slot (R101). -/
def State.dropNotices (s : State) : Disposal → List Notice
  | .offer q _ => if s.queues[q].accepts then [] else [queueDropNotice q]
  | _ => []

/-- The swap that a completion performs, after the record's whole outcome (R74). -/
def State.swapAtCompletion (s : State) (swap : SwapState) (marker : Bool) (ch : Channel) : State :=
  match swap with
  | .idle => s
  | .armedNext => s.performSwap .next
  | .armedMarker rule => if marker then s.performSwap (.marker ch rule) else s

/-- The outcome of the classification of a record in slot `i` applied in one event (R61, R71, R74). -/
def completeRecord (i : SlotId) (bankUsed : BankId) (generation : Byte) (r : UpRecord) (s : State) : State :=
  let j := judge (s.bank bankUsed) generation s.timebase.count s.swap r (s.context r.channel)
  ((({ s with classifier := .idle }.dispose i r j.disposal).setContext r.channel
      (j.context.counted (s.places j.disposal))).raiseAll (j.notices ++ s.dropNotices j.disposal)).swapAtCompletion
    s.swap j.marker r.channel

/-- CLASSIFY_COMPLETE (R61). With no classification in flight the event does not occur (log entry 3). -/
def completeClassification (s : State) : State :=
  match s.classifier with
  | .idle => s
  | .busy i bankUsed generation =>
    match s.slot i with
    | .waiting r _ => completeRecord i bankUsed generation r s
    | _ => s

/-- CLASSIFY_TAKE: the IDLE Classifier takes the head of the Classify FIFO and records the bank and generation (R24, R59). -/
def takeForClassification (s : State) : State :=
  match s.classifier, s.classifyFifo with
  | .idle, i :: _ =>
    match s.slot i with
    | .waiting r _ =>
      { s with slots := s.slots.set i (.waiting r true), classifier := .busy i s.active s.generation }
    | _ => s
  | _, _ => s

/-- CLASSIFY_TAKE (R59). -/
def execClassifyTake (s : State) : Host.Outcome State Fault Refusal := live s (takeForClassification s)

/-- CLASSIFY_COMPLETE (R61). -/
def execClassifyComplete (s : State) : Host.Outcome State Fault Refusal := live s (completeClassification s)

end Sys2Proof.Machine
end

