-- ==== Sys2Proof/Machine/Links.lean ====
section
/-! DEFINITION. The record links (Section 1): a byte received on either link, a line lost, and the starts and ends of the two
transmitters' sends, with the Scheduler's grant (Section 9). -/

namespace Sys2Proof.Machine

/-! ## The line monitors (1.3) -/

/-- A line monitor after a received byte (R6, R7). -/
def LineMonitor.receive (m : LineMonitor) (b : Byte) : LineMonitor :=
  match m with
  | .up _ => .up 0
  | .down run =>
    if b = Config.fillCode then (if Config.lineUpFills ≤ run + 1 then .up 0 else .down (run + 1)) else .down 0

/-- The received byte brings the line UP (R6). -/
def LineMonitor.comesUp (m : LineMonitor) (b : Byte) : Bool := !m.isUp && (m.receive b).isUp

/-- The silence timer has expired: the line is UP and 1000 µs have passed since its last received byte (R7). -/
def LineMonitor.expired : LineMonitor → Bool
  | .down _ => false
  | .up silence => decide (Config.lineLossMicros ≤ silence)

/-- The LINE_CHANGE that a received byte raises. -/
def upNotices (link : Link) (m : LineMonitor) (b : Byte) : List Notice :=
  if m.comesUp b then [lineChange link true] else []

/-- In HUNT: the byte is a start code (R3). -/
def startsRecord (m : LineMonitor) (last : Option Byte) (b : Byte) : Bool :=
  m.isUp && b == Config.startCode && last == some Config.fillCode

/-! ## The field receiver (1.4) -/

/-- The field receiver's state written; the last byte stands with it. -/
def State.setFieldPhase (s : State) (p : FieldPhase) : State := { s with fieldRx := { s.fieldRx with phase := p } }

/-- A field start code: the lowest FREE slot is claimed and stamped, or the claim is refused and the record skipped
(R8, R21, R22). -/
def startFieldRecord (s : State) : State :=
  match lowestFree s.slots with
  | some i => (s.setSlot i (.receiving ⟨s.timebase.count, [], []⟩)).setFieldPhase (.header (some i) 0)
  | none =>
    ({ s with counters := { s.counters with poolDrop := count s.counters.poolDrop } }.setFieldPhase
      (.header none 0)).raise poolDropNotice

/-- A byte of a record written into its slot; nothing is stored for a skipped record (R8). -/
def storeFieldByte (slot : Option SlotId) (write : PartialRecord → PartialRecord) (s : State) : State :=
  match slot with
  | none => s
  | some i =>
    match s.slot i with
    | .receiving r => s.setSlot i (.receiving (write r))
    | _ => s

/-- The slot of a record released to FREE (R5, R8, R9). -/
def releaseFieldSlot (slot : Option SlotId) (s : State) : State :=
  match slot with
  | none => s
  | some i => s.setSlot i .free

/-- FORMAT_ERR counted for the field link. -/
def State.fieldFormatError (s : State) : State :=
  { s with counters := { s.counters with fieldFormatErr := count s.counters.fieldFormatErr } }

/-- CHECK_ERR counted for the field link. -/
def State.fieldCheckError (s : State) : State :=
  { s with counters := { s.counters with fieldCheckErr := count s.counters.fieldCheckErr } }

/-- A good field record joins the Classify FIFO (R9, R23). -/
def admitFieldRecord (i : SlotId) (r : UpRecord) (s : State) : State :=
  { s with
    slots := s.slots.set i (.waiting r false)
    classifyFifo := s.classifyFifo ++ [i]
    counters := { s.counters with fieldRxGood := count s.counters.fieldRxGood } }

/-- A field record held in a slot is judged at its second Check byte (R9). -/
def judgeFieldRecord (i : SlotId) (r : PartialRecord) (hi lo : Byte) (s : State) : State :=
  if checkGood (r.header ++ r.body) hi lo then
    match indexOf Config.channels (r.header.getD 0 0#8) with
    | some ch => admitFieldRecord i ⟨r.stamp, ch, r.header.getD 1 0#8, r.body⟩ s
    | none => (s.setSlot i .free).fieldFormatError
  else (s.setSlot i .free).fieldCheckError

/-- The record is complete: judged when a slot holds it, passed over when it was skipped (R8, R9). -/
def completeFieldRecord (slot : Option SlotId) (hi lo : Byte) (s : State) : State :=
  match slot with
  | none => s
  | some i =>
    match s.slot i with
    | .receiving r => judgeFieldRecord i r hi lo s
    | _ => s

/-- The Length byte of a field record (R4). -/
def fieldLength (slot : Option SlotId) (b : Byte) (s : State) : State :=
  if Config.maxBody < b.toNat then ((releaseFieldSlot slot s).fieldFormatError).setFieldPhase .hunt
  else
    (storeFieldByte slot (fun r => { r with header := r.header ++ [b] }) s).setFieldPhase
      (if b.toNat = 0 then .check slot none else .body slot b.toNat)

/-- The field receiver takes a byte (R3, R4, R8, R9). `m` is the line monitor as it stood before the byte. -/
def fieldReceive (m : LineMonitor) (last : Option Byte) (b : Byte) (s : State) : State :=
  match s.fieldRx.phase with
  | .hunt => if startsRecord m last b then startFieldRecord s else s
  | .header slot got =>
    if got < 2 then
      (storeFieldByte slot (fun r => { r with header := r.header ++ [b] }) s).setFieldPhase (.header slot (got + 1))
    else fieldLength slot b s
  | .body slot left =>
    (storeFieldByte slot (fun r => { r with body := r.body ++ [b] }) s).setFieldPhase
      (if left ≤ 1 then .check slot none else .body slot (left - 1))
  | .check slot none => s.setFieldPhase (.check slot (some b))
  | .check slot (some hi) => (completeFieldRecord slot hi b s).setFieldPhase .hunt

/-- A byte received on the field link: the last byte, the line monitor, then the receiver. -/
def fieldByte (b : Byte) (s : State) : State :=
  (fieldReceive s.fieldMonitor s.fieldRx.last b
    { s with
      fieldMonitor := s.fieldMonitor.receive b
      fieldRx := { s.fieldRx with last := some b } }).raiseAll (upNotices .field s.fieldMonitor b)

/-! ## The uplink receiver (1.5) -/

/-- The Class a byte names (R11). -/
def classOf (b : Byte) : Option RecordClass :=
  if b = 0x01#8 then some .dataUp
  else if b = 0x02#8 then some .response
  else if b = 0x03#8 then some .notice
  else if b = 0x11#8 then some .dataDown
  else if b = 0x12#8 then some .request
  else none

/-- The header bytes of a record, the Class byte among them (the table of 1.2). -/
def RecordClass.headerLength : RecordClass → Nat
  | .dataUp => 11
  | .response => 6
  | .notice => 9
  | .dataDown => 4
  | .request => 5

/-- The record is one the host sends, which is received into the staging (R11). -/
def RecordClass.stored : RecordClass → Bool
  | .dataDown => true
  | .request => true
  | _ => false

/-- The uplink receiver's state and staging written; the last byte stands with them. -/
def State.setUplinkPhase (s : State) (p : UplinkPhase) (staging : List Byte) : State :=
  { s with uplinkRx := { s.uplinkRx with phase := p, staging := staging } }

/-- FORMAT_ERR counted for the uplink. -/
def State.uplinkFormatError (s : State) : State :=
  { s with counters := { s.counters with uplinkFormatErr := count s.counters.uplinkFormatErr } }

/-- CHECK_ERR counted for the uplink. -/
def State.uplinkCheckError (s : State) : State :=
  { s with counters := { s.counters with uplinkCheckErr := count s.counters.uplinkCheckErr } }

/-- BAD_CLASS counted. -/
def State.badClass (s : State) : State :=
  { s with counters := { s.counters with badClass := count s.counters.badClass } }

/-- RX_GOOD counted for the uplink. -/
def State.uplinkGood (s : State) : State :=
  { s with counters := { s.counters with uplinkRxGood := count s.counters.uplinkRxGood } }

/-- The Class byte is judged when it is received (R11). -/
def judgeClass (b : Byte) (s : State) : State :=
  match classOf b with
  | some c => s.setUplinkPhase (.header c 1) (if c.stored then [b] else [])
  | none => (s.setUplinkPhase .hunt []).badClass

/-- A byte of a stored record kept in the staging. -/
def stage (c : RecordClass) (staging : List Byte) (b : Byte) : List Byte :=
  if c.stored then staging ++ [b] else staging

/-- The last header byte of an uplink record: the Length field, but for a NOTICE (R4). -/
def uplinkHeaderEnd (c : RecordClass) (b : Byte) (s : State) : State :=
  if c = .notice then s.setUplinkPhase (.check c none) s.uplinkRx.staging
  else if Config.maxBody < b.toNat then (s.setUplinkPhase .hunt []).uplinkFormatError
  else
    s.setUplinkPhase (if b.toNat = 0 then .check c none else .body c b.toNat) (stage c s.uplinkRx.staging b)

/-- A good DATA_DOWN appended to the Outbound FIFO, or discarded with DOWN_FULL at 16 entries (R12). -/
def appendOutbound (d : DownRecord) (s : State) : State :=
  if s.outbound.length < Config.outboundCapacity then { s with outbound := s.outbound ++ [d] }
  else { s with counters := { s.counters with downFull := count s.counters.downFull } }

/-- A good REQUEST appended to the Request FIFO, or discarded with REQ_DROP at 4 entries (R12, R153). -/
def appendRequest (r : Request) (s : State) : State :=
  if s.requestFifo.length < Config.requestCapacity then { s with requestFifo := s.requestFifo ++ [r] }
  else { s with counters := { s.counters with reqDrop := count s.counters.reqDrop } }

/-- A DATA_DOWN whose Check is good: its Channel is tested, then it is dispatched (R12). -/
def dispatchDown (bytes : List Byte) (s : State) : State :=
  match indexOf Config.channels (bytes.getD 1 0#8) with
  | some ch => appendOutbound ⟨ch, bytes.getD 2 0#8, bytes.drop 4⟩ s.uplinkGood
  | none => s.uplinkFormatError

/-- A REQUEST whose Check is good (R12). -/
def dispatchRequest (bytes : List Byte) (s : State) : State :=
  appendRequest ⟨word16 (bytes.getD 1 0#8) (bytes.getD 2 0#8), bytes.getD 3 0#8, bytes.drop 5⟩ s.uplinkGood

/-- The second Check byte of an uplink record (R11, R12). -/
def completeUplinkRecord (c : RecordClass) (bytes : List Byte) (hi lo : Byte) (s : State) : State :=
  match c with
  | .dataDown => if checkGood bytes hi lo then dispatchDown bytes s else s.uplinkCheckError
  | .request => if checkGood bytes hi lo then dispatchRequest bytes s else s.uplinkCheckError
  | _ => s.badClass

/-- The uplink receiver takes a byte (R3, R4, R11, R12). `m` is the line monitor as it stood before the byte. -/
def uplinkReceive (m : LineMonitor) (last : Option Byte) (b : Byte) (s : State) : State :=
  match s.uplinkRx.phase with
  | .hunt => if startsRecord m last b then s.setUplinkPhase .classByte [] else s
  | .classByte => judgeClass b s
  | .header c got =>
    if got + 1 < c.headerLength then s.setUplinkPhase (.header c (got + 1)) (stage c s.uplinkRx.staging b)
    else uplinkHeaderEnd c b s
  | .body c left =>
    s.setUplinkPhase (if left ≤ 1 then .check c none else .body c (left - 1)) (stage c s.uplinkRx.staging b)
  | .check c none => s.setUplinkPhase (.check c (some b)) s.uplinkRx.staging
  | .check c (some hi) => (completeUplinkRecord c s.uplinkRx.staging hi b s).setUplinkPhase .hunt []

/-- A byte received on the uplink: the last byte, the line monitor, then the receiver. -/
def uplinkByte (b : Byte) (s : State) : State :=
  (uplinkReceive s.uplinkMonitor s.uplinkRx.last b
    { s with
      uplinkMonitor := s.uplinkMonitor.receive b
      uplinkRx := { s.uplinkRx with last := some b } }).raiseAll (upNotices .uplink s.uplinkMonitor b)

/-- A byte received on a link (R4). -/
def receiveByte (link : Link) (b : Byte) (s : State) : State :=
  match link with
  | .field => fieldByte b s
  | .uplink => uplinkByte b s

/-- BYTE_RECEIVED (R4). -/
def execByteReceived (link : Link) (b : Byte) (s : State) : Host.Outcome State Fault Refusal :=
  live s (receiveByte link b s)

/-! ## A line lost (R5, R7) -/

/-- The slot a field reception holds, and whether a record is being received at all. -/
def FieldPhase.reception : FieldPhase → Option (Option SlotId)
  | .hunt => none
  | .header slot _ => some slot
  | .body slot _ => some slot
  | .check slot _ => some slot

/-- A field record abandoned at a line loss; a receiver in HUNT stays there (R5). -/
def abortField (s : State) : State :=
  match s.fieldRx.phase.reception with
  | none => s
  | some slot =>
    { releaseFieldSlot slot s with
      counters := { s.counters with fieldLineAbort := count s.counters.fieldLineAbort } }.setFieldPhase .hunt

/-- An uplink record abandoned at a line loss; a receiver in HUNT stays there (R5). -/
def abortUplink (s : State) : State :=
  if s.uplinkRx.phase = .hunt then s
  else
    { s with counters := { s.counters with uplinkLineAbort := count s.counters.uplinkLineAbort } }.setUplinkPhase
      .hunt []

/-- The silence timer of a link expires: it acts only in UP, when 1000 µs have passed with no received byte. A byte received in
the expiry's own microsecond has restarted the measurement, so the line then stays UP (R7). -/
def loseLine (link : Link) (s : State) : State :=
  match link with
  | .field =>
    if s.fieldMonitor.expired then (abortField { s with fieldMonitor := .down 0 }).raise (lineChange .field false) else s
  | .uplink =>
    if s.uplinkMonitor.expired then (abortUplink { s with uplinkMonitor := .down 0 }).raise (lineChange .uplink false)
    else s

/-- LINE_DOWN (R7). -/
def execLineDown (link : Link) (s : State) : Host.Outcome State Fault Refusal := live s (loseLine link s)

/-! ## The field transmitter (1.6) -/

/-- The idle field transmitter, with the line UP, takes the head of the Outbound FIFO: discarded with DOWN_CLOSED for a
CLOSED channel, else counted as DOWN_SENT and sent (R13). -/
def startFieldSend (s : State) : State :=
  match s.fieldTx, s.outbound with
  | .idle, d :: rest =>
    if s.fieldMonitor.isUp then
      if (s.context d.channel).state = .closed then
        { s with
          outbound := rest
          counters := { s.counters with downClosed := count s.counters.downClosed } }
      else
        { s with
          outbound := rest
          fieldTx := .sending (frameRecord d.bytes) 0
          contexts := s.contexts.set d.channel
            { s.context d.channel with downSent := count (s.context d.channel).downSent } }
    else s
  | _, _ => s

/-- FIELD_TRANSMIT_START (R13). -/
def execFieldTransmitStart (s : State) : Host.Outcome State Fault Refusal := live s (startFieldSend s)

/-- FIELD_TRANSMIT_END: after the trailing fill the field transmitter becomes idle (R13). -/
def execFieldTransmitEnd (s : State) : Host.Outcome State Fault Refusal := live s { s with fieldTx := .idle }

/-! ## The uplink transmitter and its Scheduler (1.7, Section 9) -/

/-- The lowest-numbered Forward Queue whose depth is above 0 (R140). -/
def lowestWaitingQueue (queues : Vector ForwardQueue Config.queues) : Option QueueId :=
  (List.finRange Config.queues).find? fun q => !queues[q].slots.isEmpty

/-- The grant of the head of a Forward Queue: the slot leaves its queue and becomes SENDING (R26, R102). -/
def grantSlot (q : QueueId) (s : State) : State :=
  match s.queues[q].slots with
  | [] => s
  | i :: rest =>
    match s.slot i with
    | .queued r qi up =>
      { s with
        queues := s.queues.set q { s.queues[q] with slots := rest }
        slots := s.slots.set i (.sending r qi up)
        uplinkTx := .sending (.slot i) (frameRecord (dataUpBytes r up)) 0 }
    | _ => s

/-- The grant to the best candidate: a response, else a notice with its Notice Number, else a Forward Queue (R140, R144). -/
def grantBest (s : State) : State :=
  match s.responses with
  | r :: rest =>
    { s with responses := rest, uplinkTx := .sending .response (frameRecord r.bytes) 0 }
  | [] =>
    match s.notices with
    | n :: rest =>
      { s with
        notices := rest
        noticeNumber := s.noticeNumber + 1#16
        uplinkTx := .sending .notice (frameRecord (n.bytes s.noticeNumber)) 0 }
    | [] =>
      match lowestWaitingQueue s.queues with
      | some q => grantSlot q s
      | none => s

/-- The Scheduler's grant: the transmitter idle and the uplink UP (R140). -/
def grant (s : State) : State :=
  if s.uplinkTx = .idle ∧ s.uplinkMonitor.isUp = true then grantBest s else s

/-- UPLINK_GRANT (R140). -/
def execUplinkGrant (s : State) : Host.Outcome State Fault Refusal := live s (grant s)

/-- A SENDING slot becomes FREE and SENT is counted for its queue (R27, R105). -/
def finishSlot (i : SlotId) (s : State) : State :=
  match s.slot i with
  | .sending _ q _ =>
    { s with
      slots := s.slots.set i .free
      counters := { s.counters with sent := s.counters.sent.set q (count s.counters.sent[q]) } }
  | _ => s

/-- The uplink transmitter reports completion and becomes idle (R14, R15, R27). -/
def finishUplink (s : State) : State :=
  match s.uplinkTx with
  | .idle => s
  | .sending (.slot i) _ _ => finishSlot i { s with uplinkTx := .idle }
  | .sending _ _ _ => { s with uplinkTx := .idle }

/-- UPLINK_TRANSMIT_COMPLETE (R14, R27). -/
def execUplinkTransmitComplete (s : State) : Host.Outcome State Fault Refusal := live s (finishUplink s)

end Sys2Proof.Machine
end

