-- ==== Sys2Proof/Machine/Requests.lean ====
section
/-! DEFINITION. The management requests (Section 10) and the commands that other sections own: each request row is the event
in which the Management Engine takes that request, with the channel events of the range requests and the completions of the
long operations. Results are the bytes of 11.4. -/

namespace Sys2Proof.Machine

/-! ## Duplicates and unknown commands -/

/-- A duplicate receives the Stored Response; nothing else changes (R155, R156). -/
def answerDuplicate (_ : Request) (s : State) : State := { s with responses := s.responses ++ s.stored.toList }

/-- DUPLICATE_REQUEST (R155). -/
def execDuplicateRequest (s : State) : Host.Outcome State Fault Refusal :=
  live s (s.takeAs .duplicateRequest answerDuplicate)

/-- UNKNOWN_COMMAND_REQUEST (R157). -/
def execUnknownCommandRequest (s : State) : Host.Outcome State Fault Refusal :=
  live s (s.takeAs .unknownCommandRequest fun r t => t.respond r .unknownCommand [])

/-! ## Reading requests -/

/-- The results of IDENTIFY (R159, R171, R173). -/
def identityBytes : List Byte :=
  bytes16 716#16 ++ [0x43#8, byteOf Config.channels, byteOf Config.slots, byteOf Config.rules, byteOf Config.chains,
    byteOf Config.maps]

/-- IDENTIFY (R159). -/
def answerIdentify (r : Request) (s : State) : State :=
  answerChecked (validEmpty r.params) r s fun _ => s.respond r .ok identityBytes

/-- IDENTIFY (R159). -/
def execIdentify (s : State) : Host.Outcome State Fault Refusal := live s (s.takeAs .identify answerIdentify)

/-- The results of READ STATUS (R160, R173). -/
def statusBytes (s : State) : List Byte :=
  [s.generation, s.active.code, s.swap.code, s.swap.markerCode, s.fieldMonitor.code, s.uplinkMonitor.code,
    byteOf (freeCount s), byteOf s.classifyFifo.length]
    ++ (s.queues.toList.map fun q => byteOf q.depth) ++ (s.queues.toList.map fun q => byteOf q.limit)
    ++ [byteOf s.notices.length] ++ bytes32 s.timebase.count

/-- READ STATUS (R160). -/
def answerReadStatus (r : Request) (s : State) : State :=
  answerChecked (validEmpty r.params) r s fun _ => s.respond r .ok (statusBytes s)

/-- READ STATUS (R160). -/
def execReadStatus (s : State) : Host.Outcome State Fault Refusal := live s (s.takeAs .readStatus answerReadStatus)

/-- The results of READ CONTEXT (R50, R173); the bytes of LATE, HELD and NEW are the model's choice (log entry 22). -/
def contextBytes (ch : Channel) (c : Context) : List Byte :=
  [byteOf ch.val, c.state.code, chainBindingCode c.chainBinding] ++ watchLimitBytes c.watchLimit
    ++ [c.silenceAction.code, flagCode c.notify, c.overrideMap.code, byteOf c.overrideCount, byteOf c.chainProgress]
    ++ deadlineBytes c.chainDeadline ++ [c.watchPhase.code] ++ millisBytes c.gapCount ++ lastGapBytes c.lastGap
    ++ [flagCode c.late, flagCode c.held, flagCode c.new, lastRuleRefCode c.lastRuleRef]

/-- READ CONTEXT (R50). -/
def answerReadContext (r : Request) (s : State) : State :=
  answerChecked (validChannel r.params) r s fun ch => s.respond r .ok (contextBytes ch (s.context ch))

/-- READ CONTEXT (R50). -/
def execReadContext (s : State) : Host.Outcome State Fault Refusal := live s (s.takeAs .readContext answerReadContext)

/-- The results of READ WATCH (R119, R173); the bytes of LATE, HELD and NEW are the model's choice (log entry 22). -/
def watchBytes (ch : Channel) (c : Context) : List Byte :=
  [byteOf ch.val] ++ watchLimitBytes c.watchLimit ++ [c.silenceAction.code, c.watchPhase.code]
    ++ millisBytes c.gapCount ++ lastGapBytes c.lastGap ++ [flagCode c.late, flagCode c.held, flagCode c.new]

/-- READ WATCH: the watch fields, and NEW cleared in the same event (R119). -/
def answerReadWatch (r : Request) (s : State) : State :=
  answerChecked (validChannel r.params) r s fun ch =>
    (s.setContext ch { s.context ch with new := false }).respond r .ok (watchBytes ch (s.context ch))

/-- READ WATCH (R119). -/
def execReadWatch (s : State) : Host.Outcome State Fault Refusal := live s (s.takeAs .readWatch answerReadWatch)

/-! ## MODIFY CONTEXT (3.5) -/

/-- The channels of a range, in ascending order (R48, R120). -/
def channelRange (first last : Channel) : List Channel :=
  (List.finRange Config.channels).filter fun ch => decide (first ≤ ch) && decide (ch ≤ last)

/-- MODIFY CONTEXT taken: validated as a whole, then its channel events follow (R47, R48). -/
def beginModify (r : Request) (s : State) : State :=
  answerChecked (validModifyContext r.params) r s fun m =>
    { s with engine := .modifying r m.2 (channelRange m.1.1 m.1.2) }

/-- MODIFY CONTEXT: the take (R47). -/
def execModifyContext (s : State) : Host.Outcome State Fault Refusal := live s (s.takeAs .modifyContext beginModify)

/-- One assignment written (R49). -/
def assign (c : Context) : Assignment → Context
  | .state v => { c with state := v }
  | .chainBinding v => { c with chainBinding := v }
  | .watchLimit v => { c with watchLimit := v }
  | .silenceAction v => { c with silenceAction := v }
  | .notify v => { c with notify := v }
  | .override m n => { c with overrideMap := m, overrideCount := n }

/-- The assignment is of the Chain Binding. -/
def Assignment.isChainBinding : Assignment → Bool
  | .chainBinding _ => true
  | _ => false

/-- The assignment is of the Watch Limit. -/
def Assignment.isWatchLimit : Assignment → Bool
  | .watchLimit _ => true
  | _ => false

/-- A Watch Limit below the Gap Count of a RUNNING channel (R49). -/
def Context.belowGap (c : Context) : Bool :=
  match c.watchPhase, c.watchLimit with
  | .running, some limit => decide (limit < c.gapCount)
  | _, _ => false

/-- Step 1 of R49: an assigned Chain Binding clears the run. -/
def settleChain (list : List Assignment) (c : Context) : Context :=
  if list.any Assignment.isChainBinding then c.clearRun else c

/-- Step 2 of R49: the closing side effects when the State has become CLOSED. `before` is the State before the event. -/
def settleClosing (before : ChannelState) (c : Context) : Context :=
  if c.state = .closed ∧ before ≠ .closed then c.closingEffects else c

/-- Steps 3 to 5 of R49: the watch that is to be off, to be on, or to stay on. -/
def settleWatch (ch : Channel) (list : List Assignment) (c : Context) : Context × List Notice :=
  if c.state = .closed ∨ c.watchLimit = none then (c.watchOff, [])
  else if c.watchPhase = .off then (c.watchStart, [])
  else if list.any Assignment.isWatchLimit ∧ c.belowGap then limitExpiry ch (c.watchLimit.getD 0) c
  else (c, [])

/-- One channel's event of a MODIFY CONTEXT: every assigned field, then the settling steps (R49). -/
def modifyChannel (ch : Channel) (list : List Assignment) (c : Context) : Context × List Notice :=
  settleWatch ch list (settleClosing c.state (settleChain list (list.foldl assign c)))

/-- The next channel's event of the MODIFY CONTEXT in hand; the response follows the event of Last Channel (R48, R49). -/
def modifyNext (s : State) : State :=
  match s.engine with
  | .modifying r list (ch :: left) =>
    let t := (s.setContext ch (modifyChannel ch list (s.context ch)).1).raiseAll (modifyChannel ch list (s.context ch)).2
    if left.isEmpty then t.respond r .ok [] else { t with engine := .modifying r list left }
  | _ => s

/-- MODIFY CONTEXT: the event of the next channel (R49). -/
def execModifyContextChannel (s : State) : Host.Outcome State Fault Refusal := live s (modifyNext s)

/-! ## ACK WATCH (7.5) -/

/-- ACK WATCH taken: validated, then its channel events follow (R120). -/
def beginAck (r : Request) (s : State) : State :=
  answerChecked (validAckWatch r.params) r s fun range => { s with engine := .acking r (channelRange range.1 range.2) }

/-- ACK WATCH: the take (R120). -/
def execAckWatch (s : State) : Host.Outcome State Fault Refusal := live s (s.takeAs .ackWatch beginAck)

/-- LATE and HELD cleared (R120). -/
def Context.acknowledge (c : Context) : Context := { c with late := false, held := false }

/-- The next channel's event of the ACK WATCH in hand (R120). -/
def ackNext (s : State) : State :=
  match s.engine with
  | .acking r (ch :: left) =>
    let t := s.setContext ch (s.context ch).acknowledge
    if left.isEmpty then t.respond r .ok [] else { t with engine := .acking r left }
  | _ => s

/-- ACK WATCH: the event of the next channel (R120). -/
def execAckWatchChannel (s : State) : Host.Outcome State Fault Refusal := live s (ackNext s)

/-! ## Writers and readers of the banks (Sections 5, 6 and 8) -/

/-- Consecutive items of a table written from `start` on. -/
def writeAt {α : Type} {n : Nat} (v : Vector α n) (start : Nat) : List α → Vector α n
  | [] => v
  | x :: xs => writeAt (v.setIfInBounds start x) (start + 1) xs

/-- Consecutive items of a table read from `start` on. -/
def readAt {α : Type} {n : Nat} (v : Vector α n) (start length : Nat) : List α := (v.toList.drop start).take length

/-- A writer of staging: its Parameters are tested, then the staging freeze, then the new staging bank is written and the
response is OK with no results (R128, R136). -/
def answerWriter {α : Type} (v : Except Status α) (write : α → Bank → Bank) (r : Request) (s : State) : State :=
  answerChecked v r s fun a =>
    if s.swap.armed then s.respond r .stagingFrozen []
    else (s.setStaging (write a s.stagingBank)).respond r .ok []

/-- Rule entries written from the Start Index on (R128). -/
def writeRulesTo (w : Nat × List RuleEntry) (b : Bank) : Bank := { b with rules := writeAt b.rules w.1 w.2 }

/-- WRITE RULES (R128). -/
def execWriteRules (s : State) : Host.Outcome State Fault Refusal :=
  live s (s.takeAs .writeRules fun r t => answerWriter (validWriteRules r.params) writeRulesTo r t)

/-- READ RULES (R128). -/
def answerReadRules (r : Request) (s : State) : State :=
  answerChecked (validReadRules r.params) r s fun q =>
    s.respond r .ok ((readAt (s.roleBank q.1).rules q.2.1 q.2.2).flatMap RuleEntry.bytes)

/-- READ RULES (R128). -/
def execReadRules (s : State) : Host.Outcome State Fault Refusal := live s (s.takeAs .readRules answerReadRules)

/-- One chain definition replaced (R77, R78). -/
def writeChainTo (w : ChainId × ChainDef) (b : Bank) : Bank := { b with chains := b.chains.set w.1 w.2 }

/-- WRITE CHAIN (R78). -/
def execWriteChain (s : State) : Host.Outcome State Fault Refusal :=
  live s (s.takeAs .writeChain fun r t => answerWriter (validWriteChain r.params) writeChainTo r t)

/-- READ CHAIN (R92). -/
def answerReadChain (r : Request) (s : State) : State :=
  answerChecked (validReadChain r.params) r s fun q => s.respond r .ok (s.roleBank q.1).chains[q.2].bytes

/-- READ CHAIN (R92). -/
def execReadChain (s : State) : Host.Outcome State Fault Refusal := live s (s.takeAs .readChain answerReadChain)

/-- Entries of one map written from the Start Kind on (R94). -/
def writeMapTo (w : Fin Config.maps × Nat × List MapEntry) (b : Bank) : Bank :=
  { b with maps := b.maps.set w.1 (writeAt b.maps[w.1] w.2.1 w.2.2) }

/-- WRITE MAP (R94). -/
def execWriteMap (s : State) : Host.Outcome State Fault Refusal :=
  live s (s.takeAs .writeMap fun r t => answerWriter (validWriteMap r.params) writeMapTo r t)

/-- READ MAP (R94). -/
def answerReadMap (r : Request) (s : State) : State :=
  answerChecked (validReadMap r.params) r s fun q =>
    s.respond r .ok ((readAt (s.roleBank q.1).maps[q.2.1] q.2.2.1 q.2.2.2).flatMap MapEntry.bytes)

/-- READ MAP (R94). -/
def execReadMap (s : State) : Host.Outcome State Fault Refusal := live s (s.takeAs .readMap answerReadMap)

/-- The Default Verdict written (R129). -/
def writeDefaultTo (v : Verdict) (b : Bank) : Bank := { b with defaultVerdict := v }

/-- SET DEFAULT VERDICT (R129). -/
def execSetDefaultVerdict (s : State) : Host.Outcome State Fault Refusal :=
  live s (s.takeAs .setDefaultVerdict fun r t =>
    answerWriter (validSetDefaultVerdict r.params) writeDefaultTo r t)

/-- READ DEFAULT VERDICT (R129). -/
def answerReadDefault (r : Request) (s : State) : State :=
  answerChecked (validReadDefaultVerdict r.params) r s fun role =>
    s.respond r .ok (s.roleBank role).defaultVerdict.bytes

/-- READ DEFAULT VERDICT (R129). -/
def execReadDefaultVerdict (s : State) : Host.Outcome State Fault Refusal :=
  live s (s.takeAs .readDefaultVerdict answerReadDefault)

/-! ## The long operations (8.8) -/

/-- A long operation begins, when its Parameters are good and no swap is armed (R136, R137). -/
def beginLong (busy : Engine) (r : Request) (s : State) : State :=
  answerChecked (validEmpty r.params) r s fun _ =>
    if s.swap.armed then s.respond r .stagingFrozen [] else { s with engine := busy }

/-- COPY BANK: the take (R138). -/
def execCopyBank (s : State) : Host.Outcome State Fault Refusal :=
  live s (s.takeAs .copyBank fun r t => beginLong (.copying r 0) r t)

/-- COPY BANK completes: staging holds every table of the active bank (R137, R138). -/
def completeCopy (s : State) : State :=
  match s.engine with
  | .copying r _ => (s.setStaging s.activeBank).respond r .ok []
  | _ => s

/-- COPY BANK: the completion (R137). -/
def execCopyBankComplete (s : State) : Host.Outcome State Fault Refusal := live s (completeCopy s)

/-- CLEAR STAGING: the take (R139). -/
def execClearStaging (s : State) : Host.Outcome State Fault Refusal :=
  live s (s.takeAs .clearStaging fun r t => beginLong (.clearing r 0) r t)

/-- CLEAR STAGING completes: staging holds the empty tables (R137, R139). -/
def completeClear (s : State) : State :=
  match s.engine with
  | .clearing r _ => (s.setStaging Bank.empty).respond r .ok []
  | _ => s

/-- CLEAR STAGING: the completion (R137). -/
def execClearStagingComplete (s : State) : Host.Outcome State Fault Refusal := live s (completeClear s)

/-! ## Arming and cancelling a swap (8.6) -/

/-- The results of ARM SWAP: Outcome, Generation Number and active bank at the end of the execution (R133, 11.4). -/
def armBytes (outcome generation : Byte) (active : BankId) : List Byte := [outcome, generation, active.code]

/-- An ARM SWAP NEXT that passed its tests: the swap at once with an IDLE Classifier, its SWAP_DONE behind the response, else
ARMED_NEXT (R133, R147). -/
def armNext (r : Request) (s : State) : State :=
  match s.classifier with
  | .idle =>
    (s.respond r .ok (armBytes 0x01#8 (s.generation + 1#8) s.active.other)).performSwap .next
  | .busy _ _ _ => { s with swap := .armedNext }.respond r .ok (armBytes 0x02#8 s.generation s.active)

/-- ARM SWAP whose Trigger is not MARKER (R132, R133). -/
def answerArmNext (r : Request) (s : State) : State :=
  answerChecked (validArmNext r.params) r s fun _ =>
    if s.swap.armed then s.respond r .swapArmed [] else armNext r s

/-- ARM SWAP with Trigger NEXT, or with a Trigger that is none (R132, R133). -/
def execArmSwapNext (s : State) : Host.Outcome State Fault Refusal := live s (s.takeAs .armSwapNext answerArmNext)

/-- ARM SWAP MARKER (R132, R134). -/
def answerArmMarker (r : Request) (s : State) : State :=
  answerChecked (validArmMarker r.params) r s fun i =>
    if s.swap.armed then s.respond r .swapArmed []
    else if s.activeBank.rules[i].valid then
      { s with swap := .armedMarker i }.respond r .ok (armBytes 0x02#8 s.generation s.active)
    else s.respond r .badRange []

/-- ARM SWAP with Trigger MARKER (R134). -/
def execArmSwapMarker (s : State) : Host.Outcome State Fault Refusal := live s (s.takeAs .armSwapMarker answerArmMarker)

/-- CANCEL SWAP (R135). -/
def answerCancel (r : Request) (s : State) : State :=
  answerChecked (validEmpty r.params) r s fun _ =>
    if s.swap.armed then { s with swap := .idle }.respond r .ok [] else s.respond r .notArmed []

/-- CANCEL SWAP (R135). -/
def execCancelSwap (s : State) : Host.Outcome State Fault Refusal := live s (s.takeAs .cancelSwap answerCancel)

/-! ## Limits and the Notice Mask -/

/-- The four Limits written, Queue 0 first; the entries stay (R103). -/
def setLimits (queues : Vector ForwardQueue Config.queues) (limits : List Nat) : Vector ForwardQueue Config.queues :=
  Vector.ofFn fun q => { queues[q] with limit := limits.getD q.val queues[q].limit }

/-- SET QUEUE LIMITS (R103). -/
def answerQueueLimits (r : Request) (s : State) : State :=
  answerChecked (validQueueLimits r.params) r s fun limits =>
    { s with queues := setLimits s.queues limits }.respond r .ok []

/-- SET QUEUE LIMITS (R103). -/
def execSetQueueLimits (s : State) : Host.Outcome State Fault Refusal :=
  live s (s.takeAs .setQueueLimits answerQueueLimits)

/-- SET NOTICE MASK (R161). -/
def answerNoticeMask (r : Request) (s : State) : State :=
  answerChecked (validNoticeMask r.params) r s fun mask => { s with noticeMask := mask }.respond r .ok []

/-- SET NOTICE MASK (R161). -/
def execSetNoticeMask (s : State) : Host.Outcome State Fault Refusal :=
  live s (s.takeAs .setNoticeMask answerNoticeMask)

/-! ## Counters (10.6) -/

/-- The global counters in the order returned (10.6). -/
def Counters.list (k : Counters) : List Word32 :=
  [k.fieldRxGood, k.fieldCheckErr, k.fieldFormatErr, k.fieldLineAbort, k.uplinkRxGood, k.uplinkCheckErr,
    k.uplinkFormatErr, k.uplinkLineAbort, k.badClass, k.downFull, k.downClosed, k.reqDrop, k.poolDrop, k.mapDrop]
    ++ k.queueFull.toList ++ k.sent.toList ++ [k.noticeLost]

/-- The results of READ COUNTERS in scope GLOBAL. -/
def Counters.bytes (k : Counters) : List Byte := k.list.flatMap bytes32

/-- The results of READ COUNTERS in scope CHANNEL. -/
def channelCounterBytes (ch : Channel) (c : Context) : List Byte :=
  byteOf ch.val :: (bytes32 c.classified ++ bytes32 c.forwarded ++ bytes32 c.dropped ++ bytes32 c.downSent)

/-- The four counters of a channel at 0 (R51). -/
def Context.clearCounters (c : Context) : Context :=
  { c with classified := 0#32, forwarded := 0#32, dropped := 0#32, downSent := 0#32 }

/-- READ COUNTERS: the counters of the scope reported, and with Clear YES set to 0 in the same event (R162, R163). -/
def answerReadCounters (r : Request) (s : State) : State :=
  answerChecked (validReadCounters r.params) r s fun q =>
    match q.1 with
    | none =>
      (if q.2 then { s with counters := Counters.zero } else s).respond r .ok s.counters.bytes
    | some ch =>
      (if q.2 then s.setContext ch (s.context ch).clearCounters else s).respond r .ok
        (channelCounterBytes ch (s.context ch))

/-- READ COUNTERS with a Clear other than YES (R162). -/
def execReadCounters (s : State) : Host.Outcome State Fault Refusal := live s (s.takeAs .readCounters answerReadCounters)

/-- READ COUNTERS with Clear YES (R163). -/
def execReadCountersClear (s : State) : Host.Outcome State Fault Refusal :=
  live s (s.takeAs .readCountersClear answerReadCounters)

/-! ## RESTART TRAFFIC (10.7) -/

/-- The status fields of a context at their restart values; the configuration fields stand (R38). -/
def Context.restart (c : Context) : Context :=
  { Context.powerOn c.state with
    chainBinding := c.chainBinding
    watchLimit := c.watchLimit
    silenceAction := c.silenceAction
    notify := c.notify
    overrideMap := c.overrideMap
    overrideCount := c.overrideCount
    watchPhase := if c.watchLimit = none ∨ c.state = .closed then .off else .idle }

/-- A slot after a restart: WAITING and QUEUED become FREE (R30). -/
def Slot.restart : Slot → Slot
  | .waiting _ _ => .free
  | .queued _ _ _ => .free
  | x => x

/-- What RESTART TRAFFIC does at every owner but the Management Engine (R164 and the table of 10.7). -/
def restartOwners (s : State) : State :=
  { s with
    slots := s.slots.map Slot.restart
    classifyFifo := []
    outbound := []
    contexts := s.contexts.map Context.restart
    classifier := .idle
    queues := s.queues.map fun q => { q with slots := [] }
    swap := .idle
    notices := []
    counters := Counters.zero }

/-- RESTART TRAFFIC: the owners, then the response, then RESTARTED with cause COMMAND (R150, R164). -/
def answerRestart (r : Request) (s : State) : State :=
  answerChecked (validEmpty r.params) r s fun _ =>
    { (restartOwners s).respond r .ok [] with notices := [restartedCommand] }

/-- RESTART TRAFFIC (R164). -/
def execRestartTraffic (s : State) : Host.Outcome State Fault Refusal :=
  live s (s.takeAs .restartTraffic answerRestart)

end Sys2Proof.Machine
end

