-- ==== Sys2Proof/Machine/Reset.lean ====
section
/-! DEFINITION. Power-on reset and its release (R31, R36, R150, R167). -/

namespace Sys2Proof.Machine

/-- POWER_ON_RESET: RESET is asserted. Every block takes its power-on values, and all work in progress is lost without a
count (R10, R12, R31, R34, R73, R137, R142, R150, R167). The queue of waiting commands is the sender's and stands. -/
def execPowerOnReset (s : State) : Host.Outcome State Fault Refusal :=
  .next { State.reset with pending := s.pending }

/-- The State every channel begins in, by the START_OPEN strap (R36). -/
def openingState (startOpen : Bool) : ChannelState := if startOpen then .opened else .closed

/-- RESET released: the strap is sampled once, RESTARTED with cause POWER_ON is placed in the Notice Queue, and the part runs
(R16, R36, R150). -/
def releaseReset (startOpen : Bool) (s : State) : State :=
  { s with
    resetHeld := false
    contexts := Vector.replicate Config.channels (Context.powerOn (openingState startOpen))
    notices := [restartedPowerOn] }

/-- RESET_RELEASE (R36). With RESET not held the event does not occur (log entry 3). -/
def execResetRelease (startOpen : Bool) (s : State) : Host.Outcome State Fault Refusal :=
  .next (if s.resetHeld then releaseReset startOpen s else s)

end Sys2Proof.Machine
end

