-- ==== Sys2Proof/Machine/Ticks.lean ====
section
/-! DEFINITION. Time: a microsecond of the Timebase (R16), the millisecond tick (R17), and the tick claims and window expiries
that a tick raises (R87, R88, R110 to R113). -/

namespace Sys2Proof.Machine

/-! ## A microsecond (log entry 5) -/

/-- A line monitor after a microsecond: in UP the silence since the last byte grows (R7). -/
def LineMonitor.elapse : LineMonitor → LineMonitor
  | .down run => .down run
  | .up silence => .up (silence + 1)

/-- The field transmitter after a microsecond. -/
def FieldTransmitter.elapse : FieldTransmitter → FieldTransmitter
  | .idle => .idle
  | .sending bytes elapsed => .sending bytes (elapsed + 1)

/-- The record's bytes and its one fill have been sent (R1, R13). -/
def FieldTransmitter.ends : FieldTransmitter → Bool
  | .idle => false
  | .sending bytes elapsed => decide (bytes.length + 1 ≤ elapsed + 1)

/-- The uplink transmitter after a microsecond. -/
def UplinkTransmitter.elapse : UplinkTransmitter → UplinkTransmitter
  | .idle => .idle
  | .sending grant bytes elapsed => .sending grant bytes (elapsed + 1)

/-- The record's bytes and its one fill have been sent (R1, R14). -/
def UplinkTransmitter.ends : UplinkTransmitter → Bool
  | .idle => false
  | .sending _ bytes elapsed => decide (bytes.length + 1 ≤ elapsed + 1)

/-- The Management Engine after a microsecond: a long operation goes on (R137). -/
def Engine.elapse : Engine → Engine
  | .copying r elapsed => .copying r (elapsed + 1)
  | .clearing r elapsed => .clearing r (elapsed + 1)
  | e => e

/-- The completion of a long operation that has reached its longest duration (R137). -/
def Engine.due : Engine → List Instr
  | .copying _ elapsed => if Config.longOperationMicros ≤ elapsed + 1 then [.copyBankComplete] else []
  | .clearing _ elapsed => if Config.longOperationMicros ≤ elapsed + 1 then [.clearStagingComplete] else []
  | _ => []

/-- The events that a microsecond brings, in an order that the model chooses (log entry 8). -/
def dueEvents (s : State) : List Instr :=
  (if Config.tickMicros ≤ s.timebase.divider + 1 then [.millisecondTick] else [])
    ++ (if s.fieldTx.ends then [.fieldTransmitEnd] else [])
    ++ (if s.uplinkTx.ends then [.uplinkTransmitComplete] else [])
    ++ s.engine.due

/-- The Timebase after a microsecond (R16, R17). -/
def Timebase.advance (t : Timebase) : Timebase :=
  { count := t.count + 1#32
    divider := if Config.tickMicros ≤ t.divider + 1 then 0 else t.divider + 1 }

/-- One microsecond passes, and the events it brings join the queue of waiting commands. -/
def microsecond (s : State) : State :=
  { s with
    timebase := s.timebase.advance
    fieldMonitor := s.fieldMonitor.elapse
    uplinkMonitor := s.uplinkMonitor.elapse
    fieldTx := s.fieldTx.elapse
    uplinkTx := s.uplinkTx.elapse
    engine := s.engine.elapse
    pending := s.pending ++ dueEvents s }

/-- The link whose silence timer has expired, the field link first (log entry 8). -/
def lostLine (s : State) : Option Link :=
  if s.fieldMonitor.expired then some .field
  else if s.uplinkMonitor.expired then some .uplink
  else none

/-- What the part does while no command waits: a line whose silence timer has expired is lost, in the microsecond of its
expiry, now that no byte has come in that microsecond (R7); with no line to lose one microsecond passes. Nothing passes while
RESET is held low (R16). -/
def idle (s : State) : State :=
  if s.resetHeld then s
  else
    match lostLine s with
    | some link => loseLine link s
    | none => microsecond s

/-! ## The tick (R17, R87, R110) -/

/-- The Deadline is reached at this Timebase value (R87). -/
def deadlineReached (now : Word32) : Option Word32 → Bool
  | none => false
  | some d => decide ((now - d).toNat < 2 ^ 31)

/-- The channels whose watch a tick claims: RUNNING or OVERDUE (R110). -/
def tickChannels (contexts : Vector Context Config.channels) : List Channel :=
  (List.finRange Config.channels).filter fun ch => contexts[ch].watchPhase.ticks

/-- The channels whose Deadline is reached at the tick (R87). -/
def expiredChannels (now : Word32) (contexts : Vector Context Config.channels) : List Channel :=
  (List.finRange Config.channels).filter fun ch => deadlineReached now contexts[ch].chainDeadline

/-- A millisecond tick raises its claims (R87, R110). -/
def raiseTick (s : State) : State :=
  { s with
    watchClaims := s.watchClaims ++ tickChannels s.contexts
    windowClaims :=
      s.windowClaims ++ (expiredChannels s.timebase.count s.contexts).map fun ch => (ch, s.timebase.count) }

/-- MILLISECOND_TICK (R17). -/
def execMillisecondTick (s : State) : Host.Outcome State Fault Refusal := live s (raiseTick s)

/-! ## The claims of a tick (R88, R110 to R113) -/

/-- The Context Table takes a tick claim on a channel, when one is outstanding (R110). -/
def takeTickClaim (ch : Channel) (s : State) : State :=
  if ch ∈ s.watchClaims then
    ({ s with watchClaims := s.watchClaims.erase ch }.setContext ch (tickClaim ch (s.context ch)).1).raiseAll
      (tickClaim ch (s.context ch)).2
  else s

/-- WATCH_TICK: a tick claim, with the expiries that it brings (R110). -/
def execWatchTick (ch : Channel) (s : State) : Host.Outcome State Fault Refusal := live s (takeTickClaim ch s)

/-- LIMIT_EXPIRY: a tick claim that brings a limit expiry (R111; log entry 6). -/
def execLimitExpiry (ch : Channel) (s : State) : Host.Outcome State Fault Refusal :=
  live s (if (s.context ch).limitReached then takeTickClaim ch s else s)

/-- SILENCE_EXPIRY: a tick claim that brings a silence expiry (R112; log entry 6). -/
def execSilenceExpiry (ch : Channel) (s : State) : Host.Outcome State Fault Refusal :=
  live s (if (s.context ch).silenceReached then takeTickClaim ch s else s)

/-- The Context Table takes a window expiry raised at the Timebase value `tick`: it ends the run, unless the Deadline is NONE
or not reached at the tick (R88). -/
def expireWindow (tick : Word32) (c : Context) : Context :=
  if deadlineReached tick c.chainDeadline then c.clearRun else c

/-- The first outstanding window expiry of a channel, with its tick. -/
def firstWindowClaim (ch : Channel) (claims : List (Channel × Word32)) : Option (Channel × Word32) :=
  claims.find? fun k => k.1 == ch

/-- A window expiry on a channel, when one is outstanding (R88). -/
def takeWindowClaim (ch : Channel) (s : State) : State :=
  match firstWindowClaim ch s.windowClaims with
  | none => s
  | some k =>
    { s with windowClaims := s.windowClaims.erase k }.setContext ch (expireWindow k.2 (s.context ch))

/-- WINDOW_EXPIRY (R88). -/
def execWindowExpiry (ch : Channel) (s : State) : Host.Outcome State Fault Refusal := live s (takeWindowClaim ch s)

end Sys2Proof.Machine
end

