-- ==== Sys2Proof/Machine/Dispatch.lean ====
section
/-! DEFINITION. The dispatch: one arm for each command, each one direct call of the command's meaning. -/

namespace Sys2Proof.Machine

/-- The effect of a command on everything but the queue of waiting commands. -/
def exec (i : Instr) (s : State) : Host.Outcome State Fault Refusal :=
  match i with
  | .powerOnReset => Sys2Proof.Machine.execPowerOnReset s
  | .resetRelease startOpen => Sys2Proof.Machine.execResetRelease startOpen s
  | .byteReceived link byte => Sys2Proof.Machine.execByteReceived link byte s
  | .lineDown link => Sys2Proof.Machine.execLineDown link s
  | .millisecondTick => Sys2Proof.Machine.execMillisecondTick s
  | .watchTick ch => Sys2Proof.Machine.execWatchTick ch s
  | .limitExpiry ch => Sys2Proof.Machine.execLimitExpiry ch s
  | .silenceExpiry ch => Sys2Proof.Machine.execSilenceExpiry ch s
  | .windowExpiry ch => Sys2Proof.Machine.execWindowExpiry ch s
  | .classifyTake => Sys2Proof.Machine.execClassifyTake s
  | .classifyComplete => Sys2Proof.Machine.execClassifyComplete s
  | .fieldTransmitStart => Sys2Proof.Machine.execFieldTransmitStart s
  | .fieldTransmitEnd => Sys2Proof.Machine.execFieldTransmitEnd s
  | .uplinkGrant => Sys2Proof.Machine.execUplinkGrant s
  | .uplinkTransmitComplete => Sys2Proof.Machine.execUplinkTransmitComplete s
  | .duplicateRequest => Sys2Proof.Machine.execDuplicateRequest s
  | .unknownCommandRequest => Sys2Proof.Machine.execUnknownCommandRequest s
  | .identify => Sys2Proof.Machine.execIdentify s
  | .readStatus => Sys2Proof.Machine.execReadStatus s
  | .readContext => Sys2Proof.Machine.execReadContext s
  | .modifyContext => Sys2Proof.Machine.execModifyContext s
  | .modifyContextChannel => Sys2Proof.Machine.execModifyContextChannel s
  | .readWatch => Sys2Proof.Machine.execReadWatch s
  | .ackWatch => Sys2Proof.Machine.execAckWatch s
  | .ackWatchChannel => Sys2Proof.Machine.execAckWatchChannel s
  | .writeRules => Sys2Proof.Machine.execWriteRules s
  | .readRules => Sys2Proof.Machine.execReadRules s
  | .writeChain => Sys2Proof.Machine.execWriteChain s
  | .readChain => Sys2Proof.Machine.execReadChain s
  | .writeMap => Sys2Proof.Machine.execWriteMap s
  | .readMap => Sys2Proof.Machine.execReadMap s
  | .setDefaultVerdict => Sys2Proof.Machine.execSetDefaultVerdict s
  | .readDefaultVerdict => Sys2Proof.Machine.execReadDefaultVerdict s
  | .copyBank => Sys2Proof.Machine.execCopyBank s
  | .copyBankComplete => Sys2Proof.Machine.execCopyBankComplete s
  | .clearStaging => Sys2Proof.Machine.execClearStaging s
  | .clearStagingComplete => Sys2Proof.Machine.execClearStagingComplete s
  | .armSwapNext => Sys2Proof.Machine.execArmSwapNext s
  | .armSwapMarker => Sys2Proof.Machine.execArmSwapMarker s
  | .cancelSwap => Sys2Proof.Machine.execCancelSwap s
  | .setQueueLimits => Sys2Proof.Machine.execSetQueueLimits s
  | .setNoticeMask => Sys2Proof.Machine.execSetNoticeMask s
  | .readCounters => Sys2Proof.Machine.execReadCounters s
  | .readCountersClear => Sys2Proof.Machine.execReadCountersClear s
  | .restartTraffic => Sys2Proof.Machine.execRestartTraffic s

end Sys2Proof.Machine
end

