-- ==== Sys2Proof/Safety.lean ====
section
/-! DEFINITION. What holds of the part in every state that its events can reach, as predicates on one state. Each is stated
as an invariant that every step keeps (Certificates/Slice0/Obligations.lean). -/

namespace Sys2Proof.Machine

/-- A state invariant that every step keeps, from every state that meets it, reached or not. -/
def KeptByStep (inv : State → Prop) : Prop := ∀ s t : State, inv s → step s = .next t → inv t

/-- Every Forward Queue has a Limit of 1 to 64 and a depth of at most 64 (R100). -/
def QueuesBounded (s : State) : Prop :=
  (∀ q : QueueId, 1 ≤ s.queues[q].limit ∧ s.queues[q].limit ≤ 64 ∧ s.queues[q].depth ≤ 64)

/-- The Outbound FIFO, the Request FIFO and the Response List are within their capacities, and a BUSY engine finds a place
for its response (R33, R142, R143, R153). -/
def ListsBounded (s : State) : Prop :=
  s.outbound.length ≤ 16 ∧ s.requestFifo.length ≤ 4 ∧ s.responses.length ≤ 4
    ∧ (s.engine ≠ .idle → s.responses.length < 4)

/-- The Notice Queue holds at most 15 notices other than NOTICE_LOSS, at most one NOTICE_LOSS, at most one QUEUE_DROP for each
queue and at most one POOL_DROP (R145). -/
def NoticesBounded (s : State) : Prop :=
  ordinaryCount s.notices ≤ 15
    ∧ (s.notices.filter fun n => n.kind == .noticeLoss).length ≤ 1
    ∧ (∀ q : Byte, (s.notices.filter fun n => n.kind == .queueDrop && n.subject == q).length ≤ 1)
    ∧ (s.notices.filter fun n => n.kind == .poolDrop).length ≤ 1

/-- The watch fields of one context agree: phase OFF exactly when the Watch Limit is OFF or the State CLOSED, and a Gap Count
that fits the phase (R109, R110). -/
def Context.WatchSound (c : Context) : Prop :=
  watchLimitWf c.watchLimit = true
    ∧ (c.watchPhase = .off ↔ (c.watchLimit = none ∨ c.state = .closed))
    ∧ ((c.watchPhase = .off ∨ c.watchPhase = .idle) → c.gapCount = 0)
    ∧ (c.watchPhase = .running → c.gapCount ≤ c.watchLimit.getD 0)
    ∧ (c.watchPhase = .overdue → c.gapCount < 60000)
    ∧ (c.watchPhase = .silent → c.gapCount = 60000)

/-- The assignments of the MODIFY CONTEXT in hand are within their ranges (R47). -/
def EngineWf (s : State) : Prop :=
  match s.engine with
  | .modifying _ list _ => list.all Assignment.wf = true
  | _ => True

/-- Every channel's watch fields agree (R109). -/
def WatchesSound (s : State) : Prop :=
  EngineWf s ∧ ∀ ch : Channel, (s.context ch).WatchSound

/-- A channel's run: no Deadline at Progress 0, Progress 0 in CLOSED, and a Progress above 0 only under a chain that is defined
in the active bank, below its Step Count (R79). -/
def Context.RunSound (b : Bank) (c : Context) : Prop :=
  (c.chainProgress = 0 → c.chainDeadline = none)
    ∧ (c.state = .closed → c.chainProgress = 0)
    ∧ (c.chainProgress ≠ 0 → ∃ k : ChainId × ChainDef, c.boundChain b = some k ∧ c.chainProgress < k.2.steps.length)

/-- A classification in flight uses the active bank and carries the Generation Number in force (R60). -/
def ClassifierSound (s : State) : Prop :=
  match s.classifier with
  | .idle => True
  | .busy _ bankUsed generation => bankUsed = s.active ∧ generation = s.generation

/-- Every channel's run is sound under the active bank (R79). -/
def RunsSound (s : State) : Prop :=
  ClassifierSound s ∧ ∀ ch : Channel, (s.context ch).RunSound s.activeBank

/-- A DOWN line has its receiver in HUNT (R3, R5, R7). -/
def DownLinesHunt (s : State) : Prop :=
  (s.fieldMonitor.isUp = false → s.fieldRx.phase = .hunt)
    ∧ (s.uplinkMonitor.isUp = false → s.uplinkRx.phase = .hunt)

/-- No swap is armed while a long operation runs (R137). -/
def LongUnarmed (s : State) : Prop :=
  match s.engine with
  | .copying _ _ => s.swap = .idle
  | .clearing _ _ => s.swap = .idle
  | _ => True

/-- The Slot Pool and its lists agree (R19, R24, R26): the Classify FIFO lists the WAITING slots, each Forward Queue its QUEUED
slots, each once; the RECEIVING slot is the field receiver's and the SENDING slot the uplink transmitter's; and the slot with
In Classification YES is the Classifier's, at the head of the Classify FIFO. -/
structure PoolSound (s : State) : Prop where
  fifo_nodup : s.classifyFifo.Nodup
  fifo_waiting : ∀ i : SlotId, i ∈ s.classifyFifo ↔ (s.slot i).isWaiting = true
  queue_nodup : ∀ q : QueueId, s.queues[q].slots.Nodup
  queue_queued : ∀ (q : QueueId) (i : SlotId), i ∈ s.queues[q].slots ↔ ∃ r up, s.slot i = .queued r q up
  receiving : ∀ i : SlotId, (∃ r, s.slot i = .receiving r) ↔ s.fieldRx.phase.reception = some (some i)
  sending : ∀ i : SlotId, (∃ r q up, s.slot i = .sending r q up) ↔ ∃ bytes n, s.uplinkTx = .sending (.slot i) bytes n
  in_classification : ∀ i : SlotId, (∃ r, s.slot i = .waiting r true) ↔ ∃ b g, s.classifier = .busy i b g
  in_flight_head : ∀ i b g, s.classifier = .busy i b g → s.classifyFifo.head? = some i

end Sys2Proof.Machine
end

