-- ==== Sys2Proof/Certificates/Slice0/Obligations.lean ====
section
/-! DEFINITION. The statements about the part, one for each obligation of OBLIGATIONS.json, with the few names they share.
A command's statement gives its whole next state: an equation with a record update says that every item it does not name
stands. Each command completes under the conditions named, on the state and the operands alone. -/

namespace Sys2Proof.Machine

/-- The commands executed one after the other, each on the state the one before it left. -/
def execAll : List Instr → State → Host.Outcome State Fault Refusal
  | [], s => .next s
  | c :: cs, s =>
    match exec c s with
    | .next t => execAll cs t
    | o => o

/-- The bytes received on a link, as commands. -/
def received (link : Link) (bytes : List Byte) : List Instr := bytes.map (Instr.byteReceived link)

/-- The conditions of a take (R143, R154): RESET is released, the engine is IDLE, fewer than 4 responses are pending, and the
head of the Request FIFO is `r`. -/
def State.Takes (s : State) (r : Request) (rest : List Request) : Prop :=
  s.resetHeld = false ∧ s.engine = .idle ∧ s.responses.length < 4 ∧ s.requestFifo = r :: rest

/-- The request taken is no duplicate and carries the Command code given (R155, 11.2). -/
def State.Executes (s : State) (r : Request) (rest : List Request) (command : Byte) : Prop :=
  s.Takes r rest ∧ (∀ p, s.stored = some p → p.number ≠ r.number) ∧ r.command = command

/-- The state after a response to the head of the Request FIFO: the entry left the FIFO, the response is appended and
stored. -/
def State.answered (s : State) (rest : List Request) (p : Response) : State :=
  { s with requestFifo := rest, responses := s.responses ++ [p], stored := some p }

/-- The response to a request with a Status and Results (R158). -/
def Request.reply (r : Request) (status : Status) (results : List Byte) : Response :=
  { number := r.number, command := r.command, status := status, results := results }

/-- The Classifier is BUSY with slot `i`, the head of the Classify FIFO, whose record is `r`. -/
def State.Classifies (s : State) (i : SlotId) (rest : List SlotId) (b : BankId) (g : Byte) (r : UpRecord) : Prop :=
  s.resetHeld = false ∧ s.classifier = .busy i b g ∧ s.classifyFifo = i :: rest ∧ s.slot i = .waiting r true

/-- The chain run at its cleared values: Chain Progress 0 and Chain Deadline NONE (R91). -/
def Context.runCleared (c : Context) : Context := { c with chainProgress := 0, chainDeadline := none }

/-- A State set to CLOSED with the closing side effects of R40. -/
def Context.nowClosed (c : Context) : Context :=
  { c with state := .closed, watchPhase := .off, gapCount := 0, chainProgress := 0, chainDeadline := none }

/-- The time `now` is at or past the Deadline `d`, modulo 2^32 (R87). -/
def reachedAt (now d : Word32) : Prop := (now - d).toNat < 2 ^ 31

/-- The record matches a step (R81). -/
def matchesStep (b : Bank) (r : UpRecord) : ChainStep → Prop
  | .any => True
  | .rule i => b.rules[i].valid = true ∧ b.rules[i].pattern.matches r = true

/-- The record matches step `p` of a definition. -/
def stepMatched (b : Bank) (r : UpRecord) (d : ChainDef) (p : Nat) : Prop :=
  ∃ st, d.steps[p]? = some st ∧ matchesStep b r st

/-- The Deadline that an advance sets at `now` (R82). -/
def windowFrom (d : ChainDef) (now : Word32) : Option Word32 :=
  if d.window = 0 then none else some (now + BitVec.ofNat 32 (d.window * 1000))

/-- The Lengths that the table of R173 accepts for a Command code, with the two forms of ARM SWAP. -/
def acceptsLength (command : Byte) (ps : List Byte) : Prop :=
  (command ∈ [0x01#8, 0x02#8, 0x18#8, 0x19#8, 0x1B#8, 0x30#8] ∧ ps.length = 0)
    ∨ (command ∈ [0x03#8, 0x05#8, 0x17#8] ∧ ps.length = 1)
    ∨ (command ∈ [0x06#8, 0x13#8] ∧ ps.length = 2)
    ∨ (command ∈ [0x11#8, 0x22#8] ∧ ps.length = 3)
    ∨ (command ∈ [0x15#8, 0x20#8] ∧ ps.length = 4)
    ∨ (command = 0x16#8 ∧ ps.length = 5)
    ∨ (command = 0x21#8 ∧ ps.length = 8)
    ∨ (command = 0x12#8 ∧ ps.length = 17)
    ∨ (command = 0x04#8 ∧ ∃ n, 1 ≤ n ∧ n ≤ 6 ∧ ps.length = 2 + 3 * n)
    ∨ (command = 0x10#8 ∧ ∃ n, 1 ≤ n ∧ n ≤ 8 ∧ ps.length = 1 + 24 * n)
    ∨ (command = 0x14#8 ∧ ∃ n, 1 ≤ n ∧ n ≤ 64 ∧ ps.length = 2 + 2 * n)
    ∨ (command = 0x1A#8 ∧ ((ps.length = 1 ∧ ps.head? ≠ some 0x02#8) ∨ (ps.length = 2 ∧ ps.head? ≠ some 0x01#8)))

/-- The 22 Command codes of 11.2. -/
def commandCodes : List Byte :=
  [0x01#8, 0x02#8, 0x03#8, 0x04#8, 0x05#8, 0x06#8, 0x10#8, 0x11#8, 0x12#8, 0x13#8, 0x14#8, 0x15#8, 0x16#8, 0x17#8,
    0x18#8, 0x19#8, 0x1A#8, 0x1B#8, 0x20#8, 0x21#8, 0x22#8, 0x30#8]

/-- The row of the opcode table that takes a Command code with these Parameters, for the codes of 11.2 (log entry 4). -/
def rowTakes (command : Byte) (ps : List Byte) (c : Instr) : Prop :=
  (command, c) ∈
    [(0x01#8, Instr.identify), (0x02#8, .readStatus), (0x03#8, .readContext), (0x04#8, .modifyContext),
      (0x05#8, .readWatch), (0x06#8, .ackWatch), (0x10#8, .writeRules), (0x11#8, .readRules), (0x12#8, .writeChain),
      (0x13#8, .readChain), (0x14#8, .writeMap), (0x15#8, .readMap), (0x16#8, .setDefaultVerdict),
      (0x17#8, .readDefaultVerdict), (0x18#8, .copyBank), (0x19#8, .clearStaging), (0x1B#8, .cancelSwap),
      (0x20#8, .setQueueLimits), (0x21#8, .setNoticeMask), (0x30#8, .restartTraffic)]
    ∨ (command = 0x1A#8 ∧ ps.head? = some 0x02#8 ∧ c = .armSwapMarker)
    ∨ (command = 0x1A#8 ∧ ps.head? ≠ some 0x02#8 ∧ c = .armSwapNext)
    ∨ (command = 0x22#8 ∧ ps[2]? = some 0x01#8 ∧ c = .readCountersClear)
    ∨ (command = 0x22#8 ∧ ps[2]? ≠ some 0x01#8 ∧ c = .readCounters)

/-! The codes of 11.2 and the layouts of 11.1 and 11.3, written out from their tables, so that a statement that names bytes
does not rest on the code functions of Formats.lean. -/

/-- State: 00h CLOSED, 01h OPEN, 02h QUARANTINED. -/
def stateByte : ChannelState → Byte
  | .closed => 0x00#8
  | .opened => 0x01#8
  | .quarantined => 0x02#8

/-- Silence Action: 00h NONE, 01h QUARANTINE, 02h CLOSE. -/
def silenceByte : SilenceAction → Byte
  | .none => 0x00#8
  | .quarantine => 0x01#8
  | .close => 0x02#8

/-- Watch Phase: 00h OFF, 01h IDLE, 02h RUNNING, 03h OVERDUE, 04h SILENT. -/
def phaseByte : WatchPhase → Byte
  | .off => 0x00#8
  | .idle => 0x01#8
  | .running => 0x02#8
  | .overdue => 0x03#8
  | .silent => 0x04#8

/-- Map: 00h to 07h map number, FFh IDENTITY. -/
def mapByte : MapSelect → Byte
  | .map n => BitVec.ofNat 8 n.val
  | .identity => 0xFF#8

/-- Chain Binding: 00h to 0Fh chain number, FFh NONE. -/
def bindingByte : Option ChainId → Byte
  | some n => BitVec.ofNat 8 n.val
  | none => 0xFF#8

/-- Notify, enables, Valid, Heartbeat: 00h for OFF, NO or EMPTY, 01h for ON, YES or VALID. LATE, HELD and NEW, to which 11.2
gives no codes, are written 00h when clear and 01h when set by the model's choice (log entry 22). -/
def bitByte : Bool → Byte
  | false => 0x00#8
  | true => 0x01#8

/-- Action: 00h FORWARD, 01h DROP, 02h QUARANTINE. -/
def actionByte : Action → Byte
  | .forward => 0x00#8
  | .drop => 0x01#8
  | .quarantine => 0x02#8

/-- Chain Mode: 00h STRICT, 01h LENIENT. -/
def modeByte : ChainMode → Byte
  | .strict => 0x00#8
  | .lenient => 0x01#8

/-- Completion Action: 00h NOTICE_ONLY, 01h QUARANTINE, 02h CLOSE, 03h OVERRIDE. -/
def completionByte : CompletionAction → Byte
  | .noticeOnly => 0x00#8
  | .quarantine => 0x01#8
  | .close => 0x02#8
  | .override => 0x03#8

/-- Chain step: 00h to 5Fh rule index, FFh ANY. -/
def stepByte : ChainStep → Byte
  | .rule i => BitVec.ofNat 8 i.val
  | .any => 0xFF#8

/-- Rule Ref: 00h to 5Fh entry index, FEh Default Verdict, FFh quarantine path. -/
def refByte : RuleRef → Byte
  | .rule i => BitVec.ofNat 8 i.val
  | .defaultVerdict => 0xFE#8
  | .quarantinePath => 0xFF#8

/-- Swap State: 00h IDLE, 01h ARMED_NEXT, 02h ARMED_MARKER. -/
def swapByte : SwapState → Byte
  | .idle => 0x00#8
  | .armedNext => 0x01#8
  | .armedMarker _ => 0x02#8

/-- Bank letter: 00h A, 01h B. -/
def bankByte : BankId → Byte
  | .a => 0x00#8
  | .b => 0x01#8

/-- Line state: 00h DOWN, 01h UP. -/
def lineStateByte : LineMonitor → Byte
  | .down _ => 0x00#8
  | .up _ => 0x01#8

/-- Status: 00h OK to 06h NOT_ARMED. -/
def statusByte : Status → Byte
  | .ok => 0x00#8
  | .unknownCommand => 0x01#8
  | .badLength => 0x02#8
  | .badRange => 0x03#8
  | .stagingFrozen => 0x04#8
  | .swapArmed => 0x05#8
  | .notArmed => 0x06#8

/-- Notice Kind: 01h RESTARTED to 0Ah NOTICE_LOSS. -/
def kindByte : NoticeKind → Byte
  | .restarted => 0x01#8
  | .lineChange => 0x02#8
  | .late => 0x03#8
  | .silent => 0x04#8
  | .revived => 0x05#8
  | .chainDone => 0x06#8
  | .swapDone => 0x07#8
  | .queueDrop => 0x08#8
  | .poolDrop => 0x09#8
  | .noticeLoss => 0x0A#8

/-- A two-byte quantity, high byte first (the opening of Section 11). -/
def twoBytes (n : Nat) : List Byte := [BitVec.ofNat 8 (n / 256), BitVec.ofNat 8 n]

/-- A 32-bit value, high byte first (R171). -/
def fourBytes (w : Word32) : List Byte :=
  [w.extractLsb' 24 8, w.extractLsb' 16 8, w.extractLsb' 8 8, w.extractLsb' 0 8]

/-- The Last Gap: 0 to 60,000, or FFFFh for NONE. -/
def lastGapTwo : Option Nat → List Byte
  | some n => twoBytes n
  | none => [0xFF#8, 0xFF#8]

/-- The five bytes of a Verdict (11.3). -/
def verdictBytes (v : Verdict) : List Byte :=
  [actionByte v.action, BitVec.ofNat 8 v.queue.val, mapByte v.map, BitVec.ofNat 8 v.tag.val, bitByte v.heartbeat]

/-- The 24 bytes of a rule entry (11.3). -/
def ruleBytes (e : RuleEntry) : List Byte :=
  bitByte e.valid :: ((List.finRange 8).flatMap fun j => [e.pattern.pairs[j].compare, e.pattern.pairs[j].care])
    ++ [BitVec.ofNat 8 e.pattern.minLength, BitVec.ofNat 8 e.pattern.maxLength] ++ verdictBytes e.verdict

/-- The 16 bytes of a chain definition, its eight step bytes filled up with `beyond` beyond the Step Count (11.3, R172). -/
def chainBytes (d : ChainDef) (beyond : List Byte) : List Byte :=
  BitVec.ofNat 8 d.steps.length :: ((d.steps.map stepByte ++ beyond).take 8 ++ [modeByte d.mode] ++ twoBytes d.window
    ++ [completionByte d.action, mapByte d.actionMap, BitVec.ofNat 8 d.actionCount, bitByte d.notify])

/-- The two bytes of a map entry, with `second` as the second byte of a DROP (11.3, R172). -/
def mapEntryBytes (second : Byte) : MapEntry → List Byte
  | .out k => [0x00#8, k]
  | .drop => [0x01#8, second]

/-- The three bytes of an assignment (11.4, R172). -/
def Assignment.bytes : Assignment → List Byte
  | .state v => [0x01#8, stateByte v, 0x00#8]
  | .chainBinding v => [0x02#8, bindingByte v, 0x00#8]
  | .watchLimit v => 0x03#8 :: twoBytes (v.getD 0)
  | .silenceAction v => [0x04#8, silenceByte v, 0x00#8]
  | .notify v => [0x05#8, bitByte v, 0x00#8]
  | .override m n => [0x06#8, mapByte m, BitVec.ofNat 8 n]

/-- The field that an assignment writes (the first sentence of R49, the field codes of 11.4). -/
def Context.written (c : Context) : Assignment → Context
  | .state v => { c with state := v }
  | .chainBinding v => { c with chainBinding := v }
  | .watchLimit v => { c with watchLimit := v }
  | .silenceAction v => { c with silenceAction := v }
  | .notify v => { c with notify := v }
  | .override m n => { c with overrideMap := m, overrideCount := n }

/-- The enable of a notice kind; RESTARTED and NOTICE_LOSS have none and are always raised (R146). -/
def NoticeMask.raises (m : NoticeMask) : NoticeKind → Bool
  | .lineChange => m.lineChange
  | .late => m.late
  | .silent => m.silent
  | .revived => m.revived
  | .chainDone => m.chainDone
  | .swapDone => m.swapDone
  | .queueDrop => m.queueDrop
  | .poolDrop => m.poolDrop
  | .restarted => true
  | .noticeLoss => true

/-- The channels of a range, in ascending order (R48, R120). -/
def channelsFrom (first last : Channel) : List Channel :=
  (List.finRange 128).filter fun ch => decide (first ≤ ch ∧ ch ≤ last)

end Sys2Proof.Machine

section

open Sys2Proof Sys2Proof.Machine

/-! ## The machine -/

/-- Step takes the command at the front of the queue and executes it on the state with the rest of the queue. -/
def Obligations.StepRunsFrontCommand : Prop :=
  ∀ (c : Instr) (rest : List Instr) (s : State),
    step { s with pending := c :: rest } = exec c { s with pending := rest }

/-- Every command answers a next state, and leaves the queue of waiting commands as it is. That no event stops the part, that a
command whose event's condition fails completes without a change, and that POWER_ON_RESET keeps the queue, which is the
sender's, are the model's choices (log entries 1, 3 and 20). -/
def Obligations.CommandsCompleteAndKeepTheQueue : Prop :=
  ∀ (c : Instr) (s : State), ∃ t, exec c s = .next t ∧ t.pending = s.pending

/-- On an empty queue a line without a byte for 1000 µs is lost as by LINE_DOWN, and otherwise one microsecond passes: the
Timebase and its divider advance, a tick joins the queue after every 1000 µs, a send of n bytes ends after n + 1 µs, and a
long operation counts its microseconds and completes at 300. No other command joins the queue, and each at most once. Nothing
passes while RESET is held. The model's choice (log entry 5); that the field line is lost first of two is too (log entry 8). -/
def Obligations.AnEmptyQueuePassesAMicrosecond : Prop :=
  ∀ s : State, s.pending = [] →
    (s.resetHeld = true → step s = .next s)
    ∧ (s.resetHeld = false → ∀ n, s.fieldMonitor = .up n → 1000 ≤ n → step s = exec (.lineDown .field) s)
    ∧ (s.resetHeld = false → (∀ n, s.fieldMonitor = .up n → n < 1000) →
        ∀ n, s.uplinkMonitor = .up n → 1000 ≤ n → step s = exec (.lineDown .uplink) s)
    ∧ (s.resetHeld = false → (∀ n, s.fieldMonitor = .up n → n < 1000) → (∀ n, s.uplinkMonitor = .up n → n < 1000) →
        ∃ t, step s = .next t
          ∧ t = { s with
                  timebase := t.timebase, fieldMonitor := t.fieldMonitor, uplinkMonitor := t.uplinkMonitor,
                  fieldTx := t.fieldTx, uplinkTx := t.uplinkTx, engine := t.engine, pending := t.pending }
          ∧ t.timebase.count = s.timebase.count + 1#32
          ∧ (s.timebase.divider < 999 → t.timebase.divider = s.timebase.divider + 1 ∧ .millisecondTick ∉ t.pending)
          ∧ (s.timebase.divider = 999 → t.timebase.divider = 0 ∧ .millisecondTick ∈ t.pending)
          ∧ (∀ n, s.fieldMonitor = .up n → t.fieldMonitor = .up (n + 1))
          ∧ (∀ n, s.fieldMonitor = .down n → t.fieldMonitor = .down n)
          ∧ (∀ n, s.uplinkMonitor = .up n → t.uplinkMonitor = .up (n + 1))
          ∧ (∀ n, s.uplinkMonitor = .down n → t.uplinkMonitor = .down n)
          ∧ (∀ bytes e, s.fieldTx = .sending bytes e → t.fieldTx = .sending bytes (e + 1))
          ∧ (s.fieldTx = .idle → t.fieldTx = .idle)
          ∧ (.fieldTransmitEnd ∈ t.pending ↔ ∃ bytes e, s.fieldTx = .sending bytes e ∧ bytes.length + 1 ≤ e + 1)
          ∧ (∀ g bytes e, s.uplinkTx = .sending g bytes e → t.uplinkTx = .sending g bytes (e + 1))
          ∧ (s.uplinkTx = .idle → t.uplinkTx = .idle)
          ∧ (.uplinkTransmitComplete ∈ t.pending ↔
              ∃ g bytes e, s.uplinkTx = .sending g bytes e ∧ bytes.length + 1 ≤ e + 1)
          ∧ (∀ r e, s.engine = .copying r e → t.engine = .copying r (e + 1))
          ∧ (∀ r e, s.engine = .clearing r e → t.engine = .clearing r (e + 1))
          ∧ ((∀ r e, s.engine ≠ .copying r e ∧ s.engine ≠ .clearing r e) → t.engine = s.engine)
          ∧ (.copyBankComplete ∈ t.pending ↔ ∃ r e, s.engine = .copying r e ∧ 300 ≤ e + 1)
          ∧ (.clearStagingComplete ∈ t.pending ↔ ∃ r e, s.engine = .clearing r e ∧ 300 ≤ e + 1)
          ∧ t.pending.Nodup
          ∧ ∀ c ∈ t.pending, c ∈ [Instr.millisecondTick, .fieldTransmitEnd, .uplinkTransmitComplete, .copyBankComplete,
              .clearStagingComplete])

/-- POWER_ON_RESET leaves every item at its power-on value. RESET is then held, and the State of every channel is CLOSED until
the release (the model's choice, log entry 2). The queue of waiting commands is the sender's and stands. -/
def Obligations.PowerOnResetLeavesPowerOnValues : Prop :=
  ∀ s : State, ∃ t, exec .powerOnReset s = .next t
    ∧ t.resetHeld = true ∧ t.timebase = ⟨0#32, 0⟩ ∧ t.pending = s.pending
    ∧ t.fieldMonitor = .down 0 ∧ t.uplinkMonitor = .down 0
    ∧ t.fieldRx = ⟨none, .hunt⟩ ∧ t.uplinkRx = ⟨none, .hunt, []⟩ ∧ t.fieldTx = .idle ∧ t.uplinkTx = .idle
    ∧ (∀ i, t.slot i = .free) ∧ freeCount t = 192 ∧ t.classifyFifo = [] ∧ t.outbound = []
    ∧ (∀ ch, t.context ch = ⟨.closed, none, none, .none, true, .identity, 0, 0, none, .off, 0, none, false, false, false,
        none, 0#32, 0#32, 0#32, 0#32⟩)
    ∧ t.watchClaims = [] ∧ t.windowClaims = [] ∧ t.classifier = .idle
    ∧ (∀ q : QueueId, t.queues[q] = ⟨[], 48⟩)
    ∧ t.active = .a ∧ t.generation = 0#8 ∧ t.swap = .idle
    ∧ (∀ b : BankId, (t.bank b).defaultVerdict = ⟨.forward, 3, .identity, 0, false⟩
        ∧ (∀ i : RuleIndex, (t.bank b).rules[i] =
            ⟨false, ⟨Vector.replicate 8 ⟨0#8, 0#8⟩, 0, 248⟩, ⟨.forward, 3, .identity, 0, false⟩⟩)
        ∧ (∀ n : ChainId, (t.bank b).chains[n] = ⟨[], .strict, 0, .noticeOnly, .identity, 1, false⟩)
        ∧ (∀ (m : Fin 8) (k : Fin 256), (t.bank b).maps[m][k] = .out (BitVec.ofNat 8 k.val)))
    ∧ t.responses = [] ∧ t.notices = [] ∧ t.noticeMask = ⟨true, true, true, true, true, true, true, true⟩
    ∧ t.noticeNumber = 0#16 ∧ t.requestFifo = [] ∧ t.engine = .idle ∧ t.stored = none
    ∧ t.counters = ⟨0#32, 0#32, 0#32, 0#32, 0#32, 0#32, 0#32, 0#32, 0#32, 0#32, 0#32, 0#32, 0#32, 0#32,
        Vector.replicate 4 0#32, Vector.replicate 4 0#32, 0#32⟩

/-- RESET_RELEASE samples START_OPEN once: every context begins OPEN or CLOSED by it, with its power-on values, and the Notice
Queue holds RESTARTED with cause POWER_ON, so that ALERT is asserted while the uplink is DOWN. While RESET is held low all
activity stops: no command but POWER_ON_RESET and RESET_RELEASE changes anything (log entries 2 and 12). The strap has no
effect after the one sample: RESET_RELEASE while RESET is not held changes nothing (log entry 3). In every state ALERT is
asserted exactly while RESET is not held, the uplink is DOWN and the Notice Queue is not empty. -/
def Obligations.ReleaseOpensChannelsAndHeldResetStops : Prop :=
  (∀ (s : State) (startOpen : Bool), s.resetHeld = true →
     ∃ t, exec (.resetRelease startOpen) s = .next t
       ∧ t = { s with resetHeld := false, contexts := t.contexts, notices := [⟨.restarted, 0x00#8, 1#32⟩] }
       ∧ (∀ ch, t.context ch = ⟨if startOpen then .opened else .closed, none, none, .none, true, .identity, 0, 0, none, .off,
           0, none, false, false, false, none, 0#32, 0#32, 0#32, 0#32⟩)
       ∧ s.alert = false ∧ (t.alert = true ↔ ∃ run, s.uplinkMonitor = .down run))
  ∧ (∀ (s : State) (c : Instr), s.resetHeld = true → c ≠ .powerOnReset → (∀ b, c ≠ .resetRelease b) → exec c s = .next s)
  ∧ (∀ (s : State) (startOpen : Bool), s.resetHeld = false → exec (.resetRelease startOpen) s = .next s)
  ∧ (∀ s : State, s.alert = true ↔ s.resetHeld = false ∧ (∃ run, s.uplinkMonitor = .down run) ∧ s.notices ≠ [])

/-! ## The record links -/

/-- Carrying the Check on over two received bytes yields 0000h exactly when they are the Check of the bytes before, high byte
first: the two tests of a receiver agree. The Check of the nine ASCII bytes of the text 123456789 is 29B1h. -/
def Obligations.CheckCarriedOnIsZero : Prop :=
  (∀ (bytes : List Byte) (hi lo : Byte), checkOf (bytes ++ [hi, lo]) = 0#16 ↔ checkOf bytes = hi ++ lo)
  ∧ checkOf [0x31#8, 0x32#8, 0x33#8, 0x34#8, 0x35#8, 0x36#8, 0x37#8, 0x38#8, 0x39#8] = 0x29B1#16

/-- The 32nd consecutive fill brings a DOWN line UP and raises LINE_CHANGE with Detail UP, each fill before it adds one to the
Fill Run, and any other byte sets the Fill Run to 0. -/
def Obligations.FillsBringALineUp : Prop :=
  ∀ (s : State) (run : Nat) (b : Byte), s.resetHeld = false → run ≤ 31 →
    (s.fieldMonitor = .down run → s.fieldRx.phase = .hunt →
      let t : State := { s with fieldRx := ⟨some b, .hunt⟩ }
      exec (.byteReceived .field b) s = .next
        (if b ≠ 0xF0#8 then { t with fieldMonitor := .down 0 }
        else if run = 31 then ({ t with fieldMonitor := .up 0 } : State).raise ⟨.lineChange, 0x00#8, 1#32⟩
        else { t with fieldMonitor := .down (run + 1) }))
    ∧ (s.uplinkMonitor = .down run → s.uplinkRx.phase = .hunt →
      let t : State := { s with uplinkRx := { s.uplinkRx with last := some b } }
      exec (.byteReceived .uplink b) s = .next
        (if b ≠ 0xF0#8 then { t with uplinkMonitor := .down 0 }
        else if run = 31 then ({ t with uplinkMonitor := .up 0 } : State).raise ⟨.lineChange, 0x01#8, 1#32⟩
        else { t with uplinkMonitor := .down (run + 1) }))

/-- A receiver in HUNT on an UP line takes an F1h after an F0h as a start code, and any other byte into the last-byte value
alone. -/
def Obligations.HuntTakesAStartCodeAfterAFill : Prop :=
  ∀ (s : State) (n : Nat) (b : Byte), s.resetHeld = false →
    (s.fieldMonitor = .up n → s.fieldRx.phase = .hunt → (b ≠ 0xF1#8 ∨ s.fieldRx.last ≠ some 0xF0#8) →
      exec (.byteReceived .field b) s = .next { s with fieldMonitor := .up 0, fieldRx := ⟨some b, .hunt⟩ })
    ∧ (s.uplinkMonitor = .up n → s.uplinkRx.phase = .hunt → (b ≠ 0xF1#8 ∨ s.uplinkRx.last ≠ some 0xF0#8) →
      exec (.byteReceived .uplink b) s = .next
        { s with uplinkMonitor := .up 0, uplinkRx := { s.uplinkRx with last := some b } })
    ∧ (s.uplinkMonitor = .up n → s.uplinkRx.phase = .hunt → s.uplinkRx.last = some 0xF0#8 →
      exec (.byteReceived .uplink 0xF1#8) s = .next
        { s with uplinkMonitor := .up 0, uplinkRx := ⟨some 0xF1#8, .classByte, []⟩ })

/-- A field start code claims the lowest-numbered FREE slot and stamps it with the Timebase; with no FREE slot it counts
POOL_DROP, raises the POOL_DROP notice and the record is skipped. -/
def Obligations.StartCodeClaimsTheLowestFreeSlot : Prop :=
  ∀ (s : State) (n : Nat), s.resetHeld = false → s.fieldMonitor = .up n → s.fieldRx = ⟨some 0xF0#8, .hunt⟩ →
    (∀ i : SlotId, s.slot i = .free → (∀ j, j < i → s.slot j ≠ .free) →
      exec (.byteReceived .field 0xF1#8) s = .next
        { s with
          fieldMonitor := .up 0
          fieldRx := ⟨some 0xF1#8, .header (some i) 0⟩
          slots := s.slots.set i (.receiving ⟨s.timebase.count, [], []⟩) })
    ∧ ((∀ i, s.slot i ≠ .free) →
      exec (.byteReceived .field 0xF1#8) s = .next
        (({ s with
            fieldMonitor := .up 0
            fieldRx := ⟨some 0xF1#8, .header none 0⟩
            counters := { s.counters with poolDrop := s.counters.poolDrop + 1#32 } } : State).raise
          ⟨.poolDrop, 0x00#8, 1#32⟩))

/-- A field record, from the byte after its start code to its last Check byte: one held in a slot is judged in the order Check,
Channel, and a good one becomes WAITING at the tail of the Classify FIFO; one skipped for want of a slot counts nothing. -/
def Obligations.FieldRecordJudgedAtItsEnd : Prop :=
  ∀ (s : State) (n : Nat) (c k hi lo : Byte) (body : List Byte), s.resetHeld = false → s.fieldMonitor = .up n →
    body.length ≤ 248 →
    let bytes := c :: k :: BitVec.ofNat 8 body.length :: body
    let t : State := { s with fieldMonitor := .up 0, fieldRx := ⟨some lo, .hunt⟩ }
    (∀ (i : SlotId) (stamp : Word32), s.fieldRx.phase = .header (some i) 0 → s.slot i = .receiving ⟨stamp, [], []⟩ →
      execAll (received .field (bytes ++ [hi, lo])) s = .next
        (if checkOf bytes = hi ++ lo then
          if h : c.toNat < 128 then
            { t with
              slots := s.slots.set i (.waiting ⟨stamp, ⟨c.toNat, h⟩, k, body⟩ false)
              classifyFifo := s.classifyFifo ++ [i]
              counters := { s.counters with fieldRxGood := s.counters.fieldRxGood + 1#32 } }
          else
            { t with
              slots := s.slots.set i .free
              counters := { s.counters with fieldFormatErr := s.counters.fieldFormatErr + 1#32 } }
        else
          { t with
            slots := s.slots.set i .free
            counters := { s.counters with fieldCheckErr := s.counters.fieldCheckErr + 1#32 } }))
    ∧ (s.fieldRx.phase = .header none 0 → execAll (received .field (bytes ++ [hi, lo])) s = .next t)

/-- A Length above 248 ends the record at once with FORMAT_ERR: a claimed slot is released, or the staging emptied. -/
def Obligations.LengthAbove248IsAFormatError : Prop :=
  ∀ (s : State) (n : Nat) (b : Byte), s.resetHeld = false → 248 < b.toNat →
    (s.fieldMonitor = .up n →
      let t : State :=
        { s with
          fieldMonitor := .up 0
          fieldRx := ⟨some b, .hunt⟩
          counters := { s.counters with fieldFormatErr := s.counters.fieldFormatErr + 1#32 } }
      (∀ i, s.fieldRx.phase = .header (some i) 2 →
        exec (.byteReceived .field b) s = .next { t with slots := s.slots.set i .free })
      ∧ (s.fieldRx.phase = .header none 2 → exec (.byteReceived .field b) s = .next t))
    ∧ (s.uplinkMonitor = .up n →
      ∀ cls got, s.uplinkRx.phase = .header cls got →
        (cls, got) ∈ [(RecordClass.dataUp, 10), (.response, 5), (.dataDown, 3), (.request, 4)] →
        exec (.byteReceived .uplink b) s = .next
          { s with
            uplinkMonitor := .up 0
            uplinkRx := ⟨some b, .hunt, []⟩
            counters := { s.counters with uplinkFormatErr := s.counters.uplinkFormatErr + 1#32 } })

/-- A DATA_DOWN or REQUEST, from its Class byte to its last Check byte: a bad Check; for DATA_DOWN a Channel of 128 or above; or
a good record, which joins the Outbound or Request FIFO, or is discarded with DOWN_FULL at 16 entries or REQ_DROP at 4. The
staging is empty when the event ends. The Parameters of a request are not judged here. -/
def Obligations.UplinkRecordsJudgedAtTheirEnd : Prop :=
  (∀ (s : State) (n : Nat) (c k hi lo : Byte) (body : List Byte), s.resetHeld = false → s.uplinkMonitor = .up n →
     s.uplinkRx.phase = .classByte → body.length ≤ 248 →
     let bytes := 0x11#8 :: c :: k :: BitVec.ofNat 8 body.length :: body
     let t : State := { s with uplinkMonitor := .up 0, uplinkRx := ⟨some lo, .hunt, []⟩ }
     execAll (received .uplink (bytes ++ [hi, lo])) s = .next
       (if checkOf bytes = hi ++ lo then
         if h : c.toNat < 128 then
           if s.outbound.length < 16 then
             { t with
               outbound := s.outbound ++ [⟨⟨c.toNat, h⟩, k, body⟩]
               counters := { s.counters with uplinkRxGood := s.counters.uplinkRxGood + 1#32 } }
           else
             { t with
               counters := { s.counters with
                 uplinkRxGood := s.counters.uplinkRxGood + 1#32, downFull := s.counters.downFull + 1#32 } }
         else
           { t with counters := { s.counters with uplinkFormatErr := s.counters.uplinkFormatErr + 1#32 } }
       else
         { t with counters := { s.counters with uplinkCheckErr := s.counters.uplinkCheckErr + 1#32 } }))
  ∧ (∀ (s : State) (n : Nat) (n1 n0 command hi lo : Byte) (params : List Byte), s.resetHeld = false →
       s.uplinkMonitor = .up n → s.uplinkRx.phase = .classByte → params.length ≤ 248 →
       let bytes := 0x12#8 :: n1 :: n0 :: command :: BitVec.ofNat 8 params.length :: params
       let t : State := { s with uplinkMonitor := .up 0, uplinkRx := ⟨some lo, .hunt, []⟩ }
       execAll (received .uplink (bytes ++ [hi, lo])) s = .next
         (if checkOf bytes = hi ++ lo then
           if s.requestFifo.length < 4 then
             { t with
               requestFifo := s.requestFifo ++ [⟨n1 ++ n0, command, params⟩]
               counters := { s.counters with uplinkRxGood := s.counters.uplinkRxGood + 1#32 } }
           else
             { t with
               counters := { s.counters with
                 uplinkRxGood := s.counters.uplinkRxGood + 1#32, reqDrop := s.counters.reqDrop + 1#32 } }
         else
           { t with counters := { s.counters with uplinkCheckErr := s.counters.uplinkCheckErr + 1#32 } }))

/-- An unknown Class counts BAD_CLASS at once; a record of Class 01h, 02h or 03h is followed whole by its Length and counts
BAD_CLASS at its last Check byte, whatever that Check is. -/
def Obligations.BadClassesAreCounted : Prop :=
  ∀ (s : State) (n : Nat), s.resetHeld = false → s.uplinkMonitor = .up n → s.uplinkRx.phase = .classByte →
    let bad : State :=
      { s with
        uplinkMonitor := .up 0
        counters := { s.counters with badClass := s.counters.badClass + 1#32 } }
    (∀ b, b ∉ [0x01#8, 0x02#8, 0x03#8, 0x11#8, 0x12#8] →
      exec (.byteReceived .uplink b) s = .next { bad with uplinkRx := ⟨some b, .hunt, []⟩ })
    ∧ (∀ (cls hi lo : Byte) (header body : List Byte), body.length ≤ 248 →
        ((cls = 0x01#8 ∧ header.length = 9) ∨ (cls = 0x02#8 ∧ header.length = 4)) →
        execAll (received .uplink (cls :: header ++ BitVec.ofNat 8 body.length :: body ++ [hi, lo])) s
          = .next { bad with uplinkRx := ⟨some lo, .hunt, []⟩ })
    ∧ (∀ (hi lo : Byte) (header : List Byte), header.length = 8 →
        execAll (received .uplink (0x03#8 :: header ++ [hi, lo])) s
          = .next { bad with uplinkRx := ⟨some lo, .hunt, []⟩ })

/-- A line lost, when 1000 µs have passed with no received byte: the monitor goes DOWN with LINE_CHANGE, a receiver inside a
record counts LINE_ABORT and releases its slot or staging, and a receiver in HUNT stays there. A byte received before the
expiry is taken, in its own microsecond too, restarts the measurement, so that the line stays UP. LINE_DOWN before the 1000 µs
have passed, and on a DOWN line, changes nothing (log entry 3). -/
def Obligations.LineLossAbandonsTheRecord : Prop :=
  ∀ (s : State) (n : Nat), s.resetHeld = false →
    (s.fieldMonitor = .up n → 1000 ≤ n →
      let t : State := { s with fieldMonitor := .down 0 }
      let aborted : State :=
        { t with
          fieldRx := ⟨s.fieldRx.last, .hunt⟩
          counters := { s.counters with fieldLineAbort := s.counters.fieldLineAbort + 1#32 } }
      let lost : Notice := ⟨.lineChange, 0x00#8, 0#32⟩
      (s.fieldRx.phase = .hunt → exec (.lineDown .field) s = .next (t.raise lost))
      ∧ (∀ i k f, (s.fieldRx.phase = .header (some i) k ∨ s.fieldRx.phase = .body (some i) k
            ∨ s.fieldRx.phase = .check (some i) f) →
          exec (.lineDown .field) s = .next (({ aborted with slots := s.slots.set i .free } : State).raise lost))
      ∧ (∀ k f, (s.fieldRx.phase = .header none k ∨ s.fieldRx.phase = .body none k ∨ s.fieldRx.phase = .check none f) →
          exec (.lineDown .field) s = .next (aborted.raise lost)))
    ∧ (s.uplinkMonitor = .up n → 1000 ≤ n →
      let t : State := { s with uplinkMonitor := .down 0 }
      let lost : Notice := ⟨.lineChange, 0x01#8, 0#32⟩
      (s.uplinkRx.phase = .hunt → exec (.lineDown .uplink) s = .next (t.raise lost))
      ∧ (s.uplinkRx.phase ≠ .hunt →
          exec (.lineDown .uplink) s = .next
            (({ t with
                uplinkRx := ⟨s.uplinkRx.last, .hunt, []⟩
                counters := { s.counters with uplinkLineAbort := s.counters.uplinkLineAbort + 1#32 } } : State).raise
              lost)))
    ∧ (∀ b t, s.fieldMonitor = .up n → exec (.byteReceived .field b) s = .next t →
        t.fieldMonitor = .up 0 ∧ exec (.lineDown .field) t = .next t)
    ∧ (∀ b t, s.uplinkMonitor = .up n → exec (.byteReceived .uplink b) s = .next t →
        t.uplinkMonitor = .up 0 ∧ exec (.lineDown .uplink) t = .next t)
    ∧ ((s.fieldMonitor = .up n ∧ n < 1000) ∨ s.fieldMonitor = .down n → exec (.lineDown .field) s = .next s)
    ∧ ((s.uplinkMonitor = .up n ∧ n < 1000) ∨ s.uplinkMonitor = .down n → exec (.lineDown .uplink) s = .next s)

/-- The idle field transmitter on an UP line takes the head of the Outbound FIFO: DOWN_CLOSED for a CLOSED channel, else
DOWN_SENT and a send of the start code, the record and its fresh Check, with fill after it. It takes nothing on a DOWN line or
while it sends, and becomes idle at the end. That the end may be given before the bytes and the fill have passed, and changes nothing
at an idle transmitter, is the model's choice (log entries 3 and 5). -/
def Obligations.FieldTransmitterSendsByState : Prop :=
  ∀ s : State, s.resetHeld = false →
    (∀ (n : Nat) (d : DownRecord) (rest : List DownRecord), s.fieldTx = .idle → s.fieldMonitor = .up n →
      s.outbound = d :: rest →
      exec .fieldTransmitStart s = .next
        (if (s.context d.channel).state = .closed then
          { s with
            outbound := rest
            counters := { s.counters with downClosed := s.counters.downClosed + 1#32 } }
        else
          { s with
            outbound := rest
            fieldTx := .sending (frameRecord d.bytes) 0
            contexts := s.contexts.set d.channel
              { s.context d.channel with downSent := (s.context d.channel).downSent + 1#32 } }))
    ∧ ((∃ n, s.fieldMonitor = .down n) ∨ s.outbound = [] ∨ s.fieldTx ≠ .idle → exec .fieldTransmitStart s = .next s)
    ∧ exec .fieldTransmitEnd s = .next { s with fieldTx := .idle }
    ∧ (∀ (d : DownRecord) (e : Nat),
        let bytes := byteOf d.channel.val :: d.kind :: byteOf d.body.length :: d.body
        (FieldTransmitter.sending (frameRecord d.bytes) e).line
          = (0xF1#8 :: (bytes ++ bytes16 (checkOf bytes))).getD e 0xF0#8
        ∧ (frameRecord d.bytes).length = d.body.length + 6)

/-- The Uplink Scheduler grants the idle transmitter on an UP line to the head of the Response List, else of the Notice Queue,
which takes the Notice Number, else of the lowest-numbered Forward Queue that holds a slot. It grants nothing otherwise. The
line then carries the start code, the RESPONSE, NOTICE or DATA_UP by its layout of 11.1 with the codes of 11.2, and its fresh
Check, with fill after it. -/
def Obligations.GrantOrder : Prop :=
  ∀ s : State, s.resetHeld = false →
    (∀ n, s.uplinkTx = .idle → s.uplinkMonitor = .up n →
      (∀ p rest, s.responses = p :: rest →
        exec .uplinkGrant s = .next { s with responses := rest, uplinkTx := .sending .response (frameRecord p.bytes) 0 })
      ∧ (∀ p rest, s.responses = [] → s.notices = p :: rest →
        exec .uplinkGrant s = .next
          { s with
            notices := rest
            noticeNumber := s.noticeNumber + 1#16
            uplinkTx := .sending .notice (frameRecord (p.bytes s.noticeNumber)) 0 })
      ∧ (∀ (q : QueueId) (i : SlotId) rest r up, s.responses = [] → s.notices = [] →
        (∀ p : QueueId, p < q → s.queues[p].slots = []) → s.queues[q].slots = i :: rest → s.slot i = .queued r q up →
        exec .uplinkGrant s = .next
          { s with
            queues := s.queues.set q ⟨rest, s.queues[q].limit⟩
            slots := s.slots.set i (.sending r q up)
            uplinkTx := .sending (.slot i) (frameRecord (dataUpBytes r up)) 0 })
      ∧ (s.responses = [] → s.notices = [] → (∀ q : QueueId, s.queues[q].slots = []) →
        exec .uplinkGrant s = .next s))
    ∧ ((∃ n, s.uplinkMonitor = .down n) ∨ s.uplinkTx ≠ .idle → exec .uplinkGrant s = .next s)
    ∧ (∀ (g : Grant) (e : Nat),
        let sent (bytes : List Byte) : Byte := (0xF1#8 :: (bytes ++ bytes16 (checkOf bytes))).getD e 0xF0#8
        (∀ p : Response,
          (UplinkTransmitter.sending g (frameRecord p.bytes) e).line
            = sent ([0x02#8, p.number.extractLsb' 8 8, p.number.extractLsb' 0 8, p.command, statusByte p.status,
                BitVec.ofNat 8 p.results.length] ++ p.results))
        ∧ (∀ (number : Word16) (p : Notice),
          (UplinkTransmitter.sending g (frameRecord (p.bytes number)) e).line
            = sent ([0x03#8, number.extractLsb' 8 8, number.extractLsb' 0 8, kindByte p.kind, p.subject]
                ++ fourBytes p.detail))
        ∧ (∀ (r : UpRecord) (up : UpContents),
          (UplinkTransmitter.sending g (frameRecord (dataUpBytes r up)) e).line
            = sent ([0x01#8, BitVec.ofNat 8 r.channel.val, up.outKind, BitVec.ofNat 8 up.tag.val, up.generation,
                refByte up.ruleRef] ++ fourBytes r.stamp ++ [BitVec.ofNat 8 r.body.length] ++ r.body)))

/-- At the completion of a DATA_UP transmission the SENDING slot becomes FREE, the free count rises by one and SENT counts for
its queue, whether the uplink is UP or DOWN; a response or notice only leaves the transmitter idle. That the completion may be
given before the record and its fill have passed, and changes nothing at an idle transmitter, is the model's choice (log
entries 3 and 5). -/
def Obligations.UplinkCompletionFreesTheSlot : Prop :=
  ∀ (s : State) (bytes : List Byte) (e : Nat), s.resetHeld = false →
    (∀ i r q up, s.uplinkTx = .sending (.slot i) bytes e → s.slot i = .sending r q up →
      ∃ t, exec .uplinkTransmitComplete s = .next t
        ∧ t = { s with
                uplinkTx := .idle
                slots := s.slots.set i .free
                counters := { s.counters with sent := s.counters.sent.set q (s.counters.sent[q] + 1#32) } }
        ∧ freeCount t = freeCount s + 1)
    ∧ (s.uplinkTx = .sending .response bytes e ∨ s.uplinkTx = .sending .notice bytes e ∨ s.uplinkTx = .idle →
      exec .uplinkTransmitComplete s = .next { s with uplinkTx := .idle })

/-! ## Ticks and expiries -/

/-- A millisecond tick raises one tick claim for each RUNNING or OVERDUE channel and one window expiry, with the tick's
Timebase value, for each channel whose Deadline is reached. The claims stand until they are taken (log entry 6). -/
def Obligations.TickRaisesItsClaims : Prop :=
  ∀ s : State, s.resetHeld = false →
    ∃ t, exec .millisecondTick s = .next t
      ∧ t = { s with watchClaims := t.watchClaims, windowClaims := t.windowClaims }
      ∧ s.watchClaims <+: t.watchClaims ∧ s.windowClaims <+: t.windowClaims
      ∧ (∀ ch, t.watchClaims.count ch = s.watchClaims.count ch +
          (if (s.context ch).watchPhase = .running ∨ (s.context ch).watchPhase = .overdue then 1 else 0))
      ∧ (∀ ch tick, tick ≠ s.timebase.count → t.windowClaims.count (ch, tick) = s.windowClaims.count (ch, tick))
      ∧ (∀ ch d, (s.context ch).chainDeadline = some d → reachedAt s.timebase.count d →
          t.windowClaims.count (ch, s.timebase.count) = s.windowClaims.count (ch, s.timebase.count) + 1)
      ∧ (∀ ch, (∀ d, (s.context ch).chainDeadline = some d → ¬ reachedAt s.timebase.count d) →
          t.windowClaims.count (ch, s.timebase.count) = s.windowClaims.count (ch, s.timebase.count))

/-- A tick claim without an expiry: the Gap Count of a RUNNING channel within its Watch Limit, or of an OVERDUE channel short of
60,000, rises by one; in OFF, IDLE and SILENT nothing changes; without a claim outstanding nothing changes (log entry 3). A limit
expiry: the phase becomes OVERDUE at the tick that raises the Gap Count above the Watch Limit, LATE is set, and LATE is raised
when the flag was clear and the channel's Notify is ON. WATCH_TICK and LIMIT_EXPIRY both take the claim (log entry 6). -/
def Obligations.TickClaimCountsAndLimitExpires : Prop :=
  (∀ (s : State) (ch : Channel), s.resetHeld = false →
     let c := s.context ch
     let t : State := { s with watchClaims := s.watchClaims.erase ch }
     let raised : State := { t with contexts := s.contexts.set ch { c with gapCount := c.gapCount + 1 } }
     (ch ∉ s.watchClaims → exec (.watchTick ch) s = .next s)
     ∧ (ch ∈ s.watchClaims →
         (c.watchPhase = .off ∨ c.watchPhase = .idle ∨ c.watchPhase = .silent → exec (.watchTick ch) s = .next t)
         ∧ (∀ limit, c.watchPhase = .running → c.watchLimit = some limit → c.gapCount + 1 ≤ limit → limit ≤ 59999 →
             exec (.watchTick ch) s = .next raised)
         ∧ (c.watchPhase = .overdue → c.gapCount + 1 < 60000 → exec (.watchTick ch) s = .next raised)))
  ∧ (∀ (s : State) (ch : Channel) (limit : Nat) (k : Instr), s.resetHeld = false → k = .watchTick ch ∨ k = .limitExpiry ch →
       ch ∈ s.watchClaims →
       let c := s.context ch
       c.watchPhase = .running → c.watchLimit = some limit → limit < c.gapCount + 1 → c.gapCount + 1 ≠ 60000 →
       let t : State :=
         { s with
           watchClaims := s.watchClaims.erase ch
           contexts := s.contexts.set ch { c with gapCount := c.gapCount + 1, watchPhase := .overdue, late := true } }
       exec k s = .next
         (if c.late = false ∧ c.notify = true then t.raise ⟨.late, BitVec.ofNat 8 ch.val, BitVec.ofNat 32 limit⟩ else t))

/-- A silence expiry: at 60,000 the phase becomes SILENT, SILENT is raised with the Silence Action, and the action is applied
to the State; with a Watch Limit of 59,999 the limit expiry of the same tick comes first, LATE before SILENT. WATCH_TICK and
SILENCE_EXPIRY take the claim that brings a silence expiry, and LIMIT_EXPIRY takes the one that brings both and no other: the
claims outstanding are the model's list, and this reading of the three rows is the model's (log entry 6). -/
def Obligations.SilenceExpiryAppliesItsAction : Prop :=
  ∀ (s : State) (ch : Channel) (k : Instr), s.resetHeld = false →
    k = .watchTick ch ∨ k = .silenceExpiry ch ∨ k = .limitExpiry ch → ch ∈ s.watchClaims →
    let c := s.context ch
    let silent (x : Context) : Context :=
      match c.silenceAction with
      | .none => { x with watchPhase := .silent, gapCount := 60000 }
      | .quarantine => { x with watchPhase := .silent, gapCount := 60000, state := .quarantined }
      | .close => x.nowClosed
    let t (x : Context) : State :=
      { s with watchClaims := s.watchClaims.erase ch, contexts := s.contexts.set ch (silent x) }
    let report (u : State) : State :=
      if c.notify = true then u.raise ⟨.silent, BitVec.ofNat 8 ch.val, (silenceByte c.silenceAction).setWidth 32⟩ else u
    c.state ≠ .closed → c.gapCount = 59999 →
    (c.watchPhase = .overdue → k ≠ .limitExpiry ch → exec k s = .next (report (t c)))
    ∧ (c.watchPhase = .overdue → exec (.limitExpiry ch) s = .next s)
    ∧ (c.watchPhase = .running → c.watchLimit = some 59999 →
        exec k s = .next (report
          (if c.late = false ∧ c.notify = true then
            (t { c with late := true }).raise ⟨.late, BitVec.ofNat 8 ch.val, 59999#32⟩
          else t { c with late := true })))

/-- A window expiry sets Chain Progress 0 and Chain Deadline NONE in whatever State the channel is in, and changes nothing when
the Deadline it finds is NONE or not reached at the tick's Timebase value. A CLOSED channel's Deadline is NONE, so no expiry
changes it. The outstanding expiries, each with its tick, are the model's list (log entry 6). -/
def Obligations.WindowExpiryEndsTheRun : Prop :=
  ∀ (s : State) (ch : Channel) (tick : Word32) (before after : List (Channel × Word32)), s.resetHeld = false →
    s.windowClaims = before ++ (ch, tick) :: after → (∀ k ∈ before, k.1 ≠ ch) →
    let c := s.context ch
    let t : State := { s with windowClaims := before ++ after }
    (∀ d, c.chainDeadline = some d → reachedAt tick d →
      exec (.windowExpiry ch) s = .next { t with contexts := s.contexts.set ch c.runCleared })
    ∧ (c.chainDeadline = none → exec (.windowExpiry ch) s = .next t)
    ∧ (∀ d, c.chainDeadline = some d → ¬ reachedAt tick d → exec (.windowExpiry ch) s = .next t)
    ∧ (RunsSound s → c.state = .closed → exec (.windowExpiry ch) s = .next t)

/-! ## Classification -/

/-- The IDLE Classifier takes the head of the Classify FIFO, which stays WAITING there with In Classification YES, and records
the active bank and the Generation Number. A BUSY Classifier takes nothing, and an empty FIFO gives nothing to take. -/
def Obligations.TakeRecordsBankAndGeneration : Prop :=
  ∀ s : State, s.resetHeld = false →
    (∀ i rest r v, s.classifier = .idle → s.classifyFifo = i :: rest → s.slot i = .waiting r v →
      exec .classifyTake s = .next
        { s with slots := s.slots.set i (.waiting r true), classifier := .busy i s.active s.generation })
    ∧ (s.classifier ≠ .idle ∨ s.classifyFifo = [] → exec .classifyTake s = .next s)

/-- A key byte matches its pair exactly when it agrees with the Compare Value in every bit of the Care Mask; an ABSENT one only
under a Care Mask of 00h. A Pattern matches when all eight key bytes do and the Length is in its range. -/
def Obligations.PatternMatchesBitByBit : Prop :=
  ∀ (p : Pattern) (r : UpRecord),
    let key : Fin 8 → Option Byte
      | 0 => some (BitVec.ofNat 8 r.channel.val)
      | 1 => some r.kind
      | 2 => r.body[0]?
      | 3 => r.body[1]?
      | 4 => r.body[2]?
      | 5 => r.body[3]?
      | 6 => r.body[4]?
      | 7 => r.body[5]?
    p.matches r = true ↔
      (∀ j : Fin 8,
        (∀ k, key j = some k → ∀ n, n < 8 → p.pairs[j].care.getLsbD n = true →
          k.getLsbD n = p.pairs[j].compare.getLsbD n)
        ∧ (key j = none → p.pairs[j].care = 0x00#8))
      ∧ p.minLength ≤ r.body.length ∧ r.body.length ≤ p.maxLength

/-- The first VALID entry, in ascending index, whose Pattern matches judges the record; where none does, the Default Verdict,
with Rule Ref FEh. Records of one Key Window and Length are judged alike. -/
def Obligations.SearchFindsTheFirstMatch : Prop :=
  ∀ (b : Bank) (r : UpRecord),
    let claims (i : RuleIndex) : Prop := b.rules[i].valid = true ∧ b.rules[i].pattern.matches r = true
    (∀ i, claims i → (∀ j, j < i → ¬ claims j) → verdictOf b r = (b.rules[i].verdict, .rule i))
    ∧ ((∀ i, ¬ claims i) → verdictOf b r = (b.defaultVerdict, .defaultVerdict))
    ∧ (∀ r' : UpRecord, r'.channel = r.channel → r'.kind = r.kind → r'.body.take 6 = r.body.take 6 →
        r'.body.length = r.body.length → verdictOf b r' = verdictOf b r)

/-- The chain step of a completion on an OPEN channel: an advance with a fresh Deadline, a completion with its CHAIN_DONE, a
STRICT break with or without a restart at step 0, a LENIENT pass, and no evaluation without a defined chain. -/
def Obligations.ChainStepOutcomes : Prop :=
  ∀ (b : Bank) (now : Word32) (r : UpRecord) (c : Context),
    (c.chainBinding = none → chainStep b now r c = ⟨c, none, []⟩)
    ∧ (∀ n : ChainId, c.chainBinding = some n →
        let d := b.chains[n]
        let p := c.chainProgress
        (d.steps = [] → chainStep b now r c = ⟨c, none, []⟩)
        ∧ (stepMatched b r d p → p + 1 < d.steps.length →
            chainStep b now r c = ⟨{ c with chainProgress := p + 1, chainDeadline := windowFrom d now }, none, []⟩)
        ∧ (stepMatched b r d p → p + 1 = d.steps.length →
            chainStep b now r c = ⟨c.runCleared, some d,
              if d.notify = true ∧ c.notify = true then
                [⟨.chainDone, BitVec.ofNat 8 r.channel.val, BitVec.ofNat 32 n.val⟩]
              else []⟩)
        ∧ (d.steps ≠ [] → ¬ stepMatched b r d p → d.mode = .strict →
            (0 < p → stepMatched b r d 0 →
              chainStep b now r c = ⟨{ c with chainProgress := 1, chainDeadline := windowFrom d now }, none, []⟩)
            ∧ (p = 0 ∨ ¬ stepMatched b r d 0 → chainStep b now r c = ⟨c.runCleared, none, []⟩))
        ∧ (d.steps ≠ [] → ¬ stepMatched b r d p → d.mode = .lenient → chainStep b now r c = ⟨c, none, []⟩))

/-- A heartbeat by the phase it finds: OFF nothing; IDLE starts the watch; RUNNING, OVERDUE and SILENT end the interval,
capture the gap unless HELD is set, OVERDUE and SILENT set HELD, and SILENT raises REVIVED with the State. -/
def Obligations.HeartbeatByPhase : Prop :=
  ∀ (ch : Channel) (st : ChannelState) (c : Context),
    let run (x : Context) : Context := { x with watchPhase := .running, gapCount := 0 }
    (c.watchPhase = .off → heartbeat ch st c = (c, []))
    ∧ (c.watchPhase = .idle → heartbeat ch st c = (run c, []))
    ∧ (c.watchPhase = .running →
        heartbeat ch st c =
          (if c.held = true then run c else { run c with lastGap := some c.gapCount, new := true }, []))
    ∧ (c.watchPhase = .overdue →
        heartbeat ch st c =
          (if c.held = true then run c
            else { run c with lastGap := some c.gapCount, new := true, held := true }, []))
    ∧ (c.watchPhase = .silent →
        heartbeat ch st c =
          (if c.held = true then run c else { run c with lastGap := some 60000, new := true, held := true },
            if c.notify = true then [⟨.revived, BitVec.ofNat 8 ch.val, (stateByte st).setWidth 32⟩] else []))

/-- A completion on a CLOSED channel drops the record and counts it; one on a QUARANTINED channel offers it untranslated to
Queue 3 with Tag 15, the Generation Used and Rule Ref FFh, after a heartbeat. An armed NEXT swap follows either. -/
def Obligations.ClosedAndQuarantinedCompletions : Prop :=
  ∀ (s : State) (i : SlotId) (rest : List SlotId) (b : BankId) (g : Byte) (r : UpRecord), s.Classifies i rest b g r →
    let c := s.context r.channel
    let swapped (u : State) : State := if s.swap = .armedNext then u.performSwap .next else u
    let t : State := { s with classifier := .idle, classifyFifo := rest }
    (c.state = .closed →
      exec .classifyComplete s = .next (swapped
        { t with
          slots := s.slots.set i .free
          contexts := s.contexts.set r.channel
            { c with classified := c.classified + 1#32, dropped := c.dropped + 1#32 } }))
    ∧ (c.state = .quarantined →
      let beat := heartbeat r.channel .quarantined c
      let counted : Context :=
        { beat.1 with lastRuleRef := some .quarantinePath, classified := c.classified + 1#32 }
      let q := s.queues[(3 : QueueId)]
      exec .classifyComplete s = .next (swapped
        (if q.slots.length < q.limit then
          ({ t with
              slots := s.slots.set i (.queued r 3 ⟨r.kind, 15, g, .quarantinePath⟩)
              queues := s.queues.set 3 ⟨q.slots ++ [i], q.limit⟩
              contexts := s.contexts.set r.channel { counted with forwarded := c.forwarded + 1#32 } } : State).raiseAll
            beat.2
        else
          (({ t with
              slots := s.slots.set i .free
              counters := { s.counters with
                queueFull := s.counters.queueFull.set 3 (s.counters.queueFull[(3 : QueueId)] + 1#32) }
              contexts := s.contexts.set r.channel { counted with dropped := c.dropped + 1#32 } } : State).raiseAll
            beat.2).raise ⟨.queueDrop, 0x03#8, 1#32⟩)))

/-- A completion on an OPEN channel: the verdict of the search, the chain step, the heartbeat, then the Action. A FORWARD
record is translated and offered to its queue, a QUARANTINE one takes the quarantine path with its own Rule Ref, a DROP one is
dropped; the chain's completion action comes last in the context; CHAIN_DONE, REVIVED and QUEUE_DROP are raised in that
order; and an armed swap follows when it is due. -/
def Obligations.OpenCompletion : Prop :=
  ∀ (s : State) (i : SlotId) (rest : List SlotId) (bankUsed : BankId) (g : Byte) (r : UpRecord),
    s.Classifies i rest bankUsed g r → (s.context r.channel).state = .opened →
    let c := s.context r.channel
    let b := s.bank bankUsed
    let v := (verdictOf b r).1
    let ref := (verdictOf b r).2
    let step := chainStep b s.timebase.count r c
    let beat :=
      if v.heartbeat = true ∨ v.action = .quarantine then heartbeat r.channel .opened step.context else (step.context, [])
    let used : Context :=
      match v.action with
      | .forward => { beat.1 with overrideCount := c.overrideCount - 1 }
      | .drop => beat.1
      | .quarantine => { beat.1 with state := .quarantined }
    let acted : Context :=
      match step.completed with
      | none => used
      | some d =>
        match d.action with
        | .noticeOnly => used
        | .quarantine => { used with state := .quarantined }
        | .close => used.nowClosed
        | .override => { used with overrideMap := d.actionMap, overrideCount := d.actionCount }
    let judged : Context := { acted with lastRuleRef := some ref, classified := c.classified + 1#32 }
    let dropped : State :=
      { s with
        classifier := .idle
        classifyFifo := rest
        slots := s.slots.set i .free
        contexts := s.contexts.set r.channel { judged with dropped := c.dropped + 1#32 } }
    let raised (u : State) : State := u.raiseAll (step.notices ++ beat.2)
    let offered (q : QueueId) (up : UpContents) : State :=
      if s.queues[q].slots.length < s.queues[q].limit then
        raised { s with
          classifier := .idle
          classifyFifo := rest
          slots := s.slots.set i (.queued r q up)
          queues := s.queues.set q ⟨s.queues[q].slots ++ [i], s.queues[q].limit⟩
          contexts := s.contexts.set r.channel { judged with forwarded := c.forwarded + 1#32 } }
      else
        (raised { dropped with
          counters := { s.counters with
            queueFull := s.counters.queueFull.set q (s.counters.queueFull[q] + 1#32) } }).raise
          ⟨.queueDrop, BitVec.ofNat 8 q.val, 1#32⟩
    let map := if 0 < c.overrideCount then c.overrideMap else v.map
    let outKind : MapEntry :=
      match map with
      | .identity => .out r.kind
      | .map m => b.maps[m][r.kind.toFin]
    let outcome : State :=
      match v.action with
      | .drop => raised dropped
      | .quarantine => offered 3 ⟨r.kind, 15, g, ref⟩
      | .forward =>
        match outKind with
        | .drop => raised { dropped with counters := { s.counters with mapDrop := s.counters.mapDrop + 1#32 } }
        | .out k => offered v.queue ⟨k, v.tag, g, ref⟩
    exec .classifyComplete s = .next
      (match s.swap with
      | .idle => outcome
      | .armedNext => outcome.performSwap .next
      | .armedMarker m => if b.rules[m].pattern.matches r = true then outcome.performSwap (.marker r.channel m) else outcome)

/-- Every completion counts CLASSIFIED and exactly one of FORWARDED, with the record placed, and DROPPED, with its slot FREE,
and no other channel's counters change. -/
def Obligations.CompletionCountsExactlyOne : Prop :=
  ∀ (s : State) (i : SlotId) (rest : List SlotId) (b : BankId) (g : Byte) (r : UpRecord), s.Classifies i rest b g r →
    let c := s.context r.channel
    ∃ t, exec .classifyComplete s = .next t
      ∧ (t.context r.channel).classified = c.classified + 1#32
      ∧ (((t.context r.channel).forwarded = c.forwarded + 1#32 ∧ (t.context r.channel).dropped = c.dropped
            ∧ ∃ q up, t.slot i = .queued r q up ∧ up.generation = g ∧ t.queues[q].slots = s.queues[q].slots ++ [i])
        ∨ ((t.context r.channel).forwarded = c.forwarded ∧ (t.context r.channel).dropped = c.dropped + 1#32
            ∧ t.slot i = .free ∧ ∀ q : QueueId, t.queues[q] = s.queues[q]))
      ∧ t.classifier = .idle ∧ t.classifyFifo = rest ∧ (∀ j, j ≠ i → t.slot j = s.slot j)
      ∧ (∀ k, k ≠ r.channel →
          (t.context k).classified = (s.context k).classified ∧ (t.context k).forwarded = (s.context k).forwarded
            ∧ (t.context k).dropped = (s.context k).dropped)

/-- A swap is one event: the pointer names the other bank, the Generation Number rises by one, every chain run is cleared, the
Swap State becomes IDLE and SWAP_DONE is raised. A completion performs it last: an armed NEXT always, an armed MARKER when the
channel is OPEN and the record matches the marker entry's Pattern, and otherwise no swap. -/
def Obligations.SwapIsOneEvent : Prop :=
  (∀ (s : State) (trigger : SwapTrigger),
    let bank : Byte := match s.active with
      | .a => 0x01#8
      | .b => 0x00#8
    s.performSwap trigger =
      ({ s with
          active := (match s.active with
            | .a => .b
            | .b => .a)
          generation := s.generation + 1#8
          contexts := s.contexts.map Context.runCleared
          swap := .idle } : State).raise
        (match trigger with
        | .next => ⟨.swapDone, 0xFF#8, (s.generation + 1#8) ++ 0x01#8 ++ bank ++ 0xFF#8⟩
        | .marker ch m =>
          ⟨.swapDone, BitVec.ofNat 8 ch.val, (s.generation + 1#8) ++ 0x02#8 ++ bank ++ BitVec.ofNat 8 m.val⟩))
  ∧ (∀ (s : State) (i : SlotId) (rest : List SlotId) (b : BankId) (g : Byte) (r : UpRecord), s.Classifies i rest b g r →
    ∃ t u, exec .classifyComplete s = .next t ∧ u.active = s.active ∧ u.generation = s.generation ∧ u.swap = s.swap
      ∧ u.classifier = .idle
      ∧ (s.swap = .idle → t = u)
      ∧ (s.swap = .armedNext → t = u.performSwap .next)
      ∧ (∀ m, s.swap = .armedMarker m →
          ((s.context r.channel).state = .opened → (s.bank b).rules[m].pattern.matches r = true →
            t = u.performSwap (.marker r.channel m))
          ∧ ((s.context r.channel).state ≠ .opened ∨ (s.bank b).rules[m].pattern.matches r = false → t = u)))

/-! ## Notices -/

/-- A raised notice, in the order of R147: masked by the enable of its kind and not raised; gathered into the pending QUEUE_DROP
of its queue or the pending POOL_DROP, whose Detail stops at its greatest value; lost with 15 ordinary notices pending, which
NOTICE_LOST and NOTICE_LOSS count; or appended. -/
def Obligations.RaisedNoticeMeetsTheQueue : Prop :=
  ∀ (s : State) (n : Notice),
    let gathers (p : Notice) : Prop :=
      (n.kind = .queueDrop ∧ p.kind = .queueDrop ∧ p.subject = n.subject) ∨ (n.kind = .poolDrop ∧ p.kind = .poolDrop)
    let up (p : Notice) : Notice := if p.detail = 0xFFFFFFFF#32 then p else { p with detail := p.detail + 1#32 }
    let lost : Counters := { s.counters with noticeLost := s.counters.noticeLost + 1#32 }
    let ordinary := (s.notices.filter fun p => p.kind != .noticeLoss).length
    (s.noticeMask.raises n.kind = false → s.raise n = s)
    ∧ (s.noticeMask.raises n.kind = true →
      (∀ before p after, s.notices = before ++ p :: after → gathers p → (∀ x ∈ before ++ after, ¬ gathers x) →
        s.raise n = { s with notices := before ++ up p :: after })
      ∧ ((∀ p ∈ s.notices, ¬ gathers p) →
        (15 ≤ ordinary →
          (∀ before p after, s.notices = before ++ p :: after → p.kind = .noticeLoss →
            (∀ x ∈ before ++ after, x.kind ≠ .noticeLoss) →
            s.raise n = { s with notices := before ++ up p :: after, counters := lost })
          ∧ ((∀ p ∈ s.notices, p.kind ≠ .noticeLoss) →
            s.raise n = { s with notices := s.notices ++ [⟨.noticeLoss, 0x00#8, 1#32⟩], counters := lost }))
        ∧ (ordinary < 15 → s.raise n = { s with notices := s.notices ++ [n] })))

/-! ## Requests -/

/-- A duplicate is answered in its take event by the Stored Response whole, whatever Command and Parameters it carries, and
changes nothing else. -/
def Obligations.DuplicateReceivesTheStoredResponse : Prop :=
  ∀ (s : State) (r : Request) (rest : List Request) (p : Response), s.Takes r rest → s.stored = some p →
    p.number = r.number →
    exec .duplicateRequest s = .next { s with requestFifo := rest, responses := s.responses ++ [p] }

/-- A request that is no duplicate is refused at its take, changing nothing, when its Command is none of the 22, or when its
Length is not one that R173 accepts for its command; the Length is tested first. Which row takes a malformed ARM SWAP or READ
COUNTERS is the model's reading of the table (log entry 4). -/
def Obligations.UnknownCommandsAndBadLengthsRefused : Prop :=
  ∀ (s : State) (r : Request) (rest : List Request), s.Executes r rest r.command →
    (r.command ∉ commandCodes →
      exec .unknownCommandRequest s = .next (s.answered rest (r.reply .unknownCommand [])))
    ∧ (∀ k, rowTakes r.command r.params k → ¬ acceptsLength r.command r.params →
      exec k s = .next (s.answered rest (r.reply .badLength [])))

/-- A request is taken by its own row alone, and only by an IDLE engine with fewer than 4 responses pending: the event of any
other request row, and any request row while the engine cannot take, changes nothing. The model's reading of the table
(log entries 3 and 4). -/
def Obligations.OnlyItsOwnRowTakesARequest : Prop :=
  ∀ (s : State) (k : Instr),
    k ∈ [Instr.duplicateRequest, .unknownCommandRequest, .identify, .readStatus, .readContext, .modifyContext, .readWatch,
      .ackWatch, .writeRules, .readRules, .writeChain, .readChain, .writeMap, .readMap, .setDefaultVerdict,
      .readDefaultVerdict, .copyBank, .clearStaging, .armSwapNext, .armSwapMarker, .cancelSwap, .setQueueLimits,
      .setNoticeMask, .readCounters, .readCountersClear, .restartTraffic] →
    (s.requestFifo = [] ∨ s.engine ≠ .idle ∨ 4 ≤ s.responses.length → exec k s = .next s)
    ∧ (∀ r rest, s.requestFifo = r :: rest →
        (∃ p, s.stored = some p ∧ p.number = r.number) → k ≠ .duplicateRequest → exec k s = .next s)
    ∧ (∀ r rest, s.requestFifo = r :: rest → (∀ p, s.stored = some p → p.number ≠ r.number) →
        (∀ j, rowTakes r.command r.params j → k ≠ j) → (r.command ∉ commandCodes → k ≠ .unknownCommandRequest) →
        exec k s = .next s)

/-- IDENTIFY and READ STATUS return the part's identity and the status snapshot, and change nothing. -/
def Obligations.IdentifyAndReadStatus : Prop :=
  ∀ (s : State) (r : Request) (rest : List Request),
    (s.Executes r rest 0x01#8 → r.params = [] →
      exec .identify s = .next (s.answered rest
        (r.reply .ok [0x02#8, 0xCC#8, 0x43#8, 128#8, 192#8, 96#8, 16#8, 8#8])))
    ∧ (s.Executes r rest 0x02#8 → r.params = [] →
      let byte (n : Nat) : Byte := BitVec.ofNat 8 n
      exec .readStatus s = .next (s.answered rest (r.reply .ok
        ([s.generation, bankByte s.active, swapByte s.swap,
            (match s.swap with
            | .armedMarker m => byte m.val
            | _ => 0xFF#8),
            lineStateByte s.fieldMonitor, lineStateByte s.uplinkMonitor, byte (freeCount s), byte s.classifyFifo.length]
          ++ [byte s.queues[(0 : QueueId)].slots.length, byte s.queues[(1 : QueueId)].slots.length,
            byte s.queues[(2 : QueueId)].slots.length, byte s.queues[(3 : QueueId)].slots.length,
            byte s.queues[(0 : QueueId)].limit, byte s.queues[(1 : QueueId)].limit,
            byte s.queues[(2 : QueueId)].limit, byte s.queues[(3 : QueueId)].limit]
          ++ [byte s.notices.length, s.timebase.count.extractLsb' 24 8, s.timebase.count.extractLsb' 16 8,
            s.timebase.count.extractLsb' 8 8, s.timebase.count.extractLsb' 0 8]))))

/-- READ CONTEXT returns the context without its counters and changes nothing; READ WATCH returns the watch fields, and clears
NEW in the same event. A channel above 127 gives BAD_RANGE. That LATE, HELD and NEW are reported as 00h when clear and 01h when
set is the model's choice (log entry 22). -/
def Obligations.ReadContextAndReadWatch : Prop :=
  ∀ (s : State) (r : Request) (rest : List Request) (b : Byte), r.params = [b] →
    (127 < b.toNat →
      (s.Executes r rest 0x03#8 → exec .readContext s = .next (s.answered rest (r.reply .badRange [])))
      ∧ (s.Executes r rest 0x05#8 → exec .readWatch s = .next (s.answered rest (r.reply .badRange []))))
    ∧ (∀ h : b.toNat < 128,
      let ch : Channel := ⟨b.toNat, h⟩
      let c := s.context ch
      (s.Executes r rest 0x03#8 →
        exec .readContext s = .next (s.answered rest (r.reply .ok
          ([b, stateByte c.state, bindingByte c.chainBinding] ++ twoBytes (c.watchLimit.getD 0)
            ++ [silenceByte c.silenceAction, bitByte c.notify, mapByte c.overrideMap, BitVec.ofNat 8 c.overrideCount,
              BitVec.ofNat 8 c.chainProgress]
            ++ (match c.chainDeadline with
              | some d => 0x01#8 :: fourBytes d
              | none => [0x00#8, 0x00#8, 0x00#8, 0x00#8, 0x00#8])
            ++ [phaseByte c.watchPhase] ++ twoBytes c.gapCount ++ lastGapTwo c.lastGap
            ++ [bitByte c.late, bitByte c.held, bitByte c.new,
              (match c.lastRuleRef with
              | some ref => refByte ref
              | none => 0xFD#8)]))))
      ∧ (s.Executes r rest 0x05#8 →
        exec .readWatch s = .next (({ s with contexts := s.contexts.set ch { c with new := false } } : State).answered rest
          (r.reply .ok
            ([b] ++ twoBytes (c.watchLimit.getD 0) ++ [silenceByte c.silenceAction, phaseByte c.watchPhase]
              ++ twoBytes c.gapCount ++ lastGapTwo c.lastGap ++ [bitByte c.late, bitByte c.held, bitByte c.new])))))

/-- MODIFY CONTEXT taken: one to six assignments of different fields over a range of channels make the engine BUSY with the
channels of the range in ascending order; a bad range, a repeated field or a value that is none gives BAD_RANGE. -/
def Obligations.ModifyContextIsValidatedWhole : Prop :=
  ∀ (s : State) (r : Request) (rest : List Request) (f l : Byte), s.Executes r rest 0x04#8 →
    (∀ (list : List Assignment) (hf : f.toNat < 128) (hl : l.toNat < 128), f.toNat ≤ l.toNat →
      1 ≤ list.length → list.length ≤ 6 → (∀ a ∈ list, a.wf = true) →
      (list.map fun a => a.bytes.head?).Nodup → r.params = f :: l :: list.flatMap Assignment.bytes →
      exec .modifyContext s = .next
        { s with
          requestFifo := rest
          engine := .modifying r list (channelsFrom ⟨f.toNat, hf⟩ ⟨l.toNat, hl⟩) })
    ∧ (∀ items : List (List Byte), 1 ≤ items.length → items.length ≤ 6 → (∀ x ∈ items, x.length = 3) →
      r.params = f :: l :: items.flatten →
      (127 < f.toNat ∨ 127 < l.toNat ∨ l.toNat < f.toNat ∨ ¬ (items.map fun x => x.head?).Nodup
        ∨ ∃ x ∈ items, parseAssignment x = none) →
      exec .modifyContext s = .next (s.answered rest (r.reply .badRange [])))

/-- One channel's event of a MODIFY CONTEXT, by R49: each assignment writes its field, then the five steps settle the chain,
the closing, the watch that is to be off, to be on, or to stay on with the limit expiry of a lowered Watch Limit. The response
follows the last channel. -/
def Obligations.ModifyContextSettlesTheChannel : Prop :=
  ∀ (s : State) (r : Request) (list : List Assignment) (ch : Channel) (left : List Channel), s.resetHeld = false →
    s.engine = .modifying r list (ch :: left) →
    let old := s.context ch
    let written := list.foldl Context.written old
    let chained := if ∃ v, .chainBinding v ∈ list then written.runCleared else written
    let closed := if chained.state = .closed ∧ old.state ≠ .closed then chained.nowClosed else chained
    let expires : Prop := (∃ v, .watchLimit v ∈ list) ∧ closed.watchPhase = .running
      ∧ ∃ limit, closed.watchLimit = some limit ∧ limit < closed.gapCount
    let written (c : Context) : State := { s with contexts := s.contexts.set ch c }
    let done (t : State) : State :=
      if left = [] then { t with responses := s.responses ++ [r.reply .ok []], stored := some (r.reply .ok []), engine := .idle }
      else { t with engine := .modifying r list left }
    (closed.state = .closed ∨ closed.watchLimit = none →
      exec .modifyContextChannel s = .next (done (written { closed with watchPhase := .off, gapCount := 0 })))
    ∧ (closed.state ≠ .closed → closed.watchLimit ≠ none →
      (closed.watchPhase = .off →
        exec .modifyContextChannel s = .next (done (written { closed with watchPhase := .idle, gapCount := 0 })))
      ∧ (closed.watchPhase ≠ .off → ¬ expires → exec .modifyContextChannel s = .next (done (written closed)))
      ∧ (expires →
        let t := written { closed with watchPhase := .overdue, late := true }
        exec .modifyContextChannel s = .next (done
          (if closed.late = false ∧ closed.notify = true then
            t.raise ⟨.late, BitVec.ofNat 8 ch.val, BitVec.ofNat 32 (closed.watchLimit.getD 0)⟩
          else t))))

/-- ACK WATCH: the take validates the range; the event of each channel, in ascending order, clears LATE and HELD alone, and the
response follows the last channel. -/
def Obligations.AckWatchClearsLateAndHeld : Prop :=
  (∀ (s : State) (r : Request) (rest : List Request) (f l : Byte), s.Executes r rest 0x06#8 → r.params = [f, l] →
    (∀ (hf : f.toNat < 128) (hl : l.toNat < 128), f.toNat ≤ l.toNat →
      exec .ackWatch s = .next
        { s with requestFifo := rest, engine := .acking r (channelsFrom ⟨f.toNat, hf⟩ ⟨l.toNat, hl⟩) })
    ∧ (127 < f.toNat ∨ 127 < l.toNat ∨ l.toNat < f.toNat →
      exec .ackWatch s = .next (s.answered rest (r.reply .badRange []))))
  ∧ (∀ (s : State) (r : Request) (ch : Channel) (left : List Channel), s.resetHeld = false →
    s.engine = .acking r (ch :: left) →
    let t : State := { s with contexts := s.contexts.set ch { s.context ch with late := false, held := false } }
    exec .ackWatchChannel s = .next
      (if left = [] then
        { t with responses := s.responses ++ [r.reply .ok []], stored := some (r.reply .ok []), engine := .idle }
      else { t with engine := .acking r left }))

/-- WRITE RULES writes its entries whole into the staging bank from the Start Index on and nothing else; an end past the list
or a field out of range gives BAD_RANGE, and an armed swap STAGING_FROZEN. -/
def Obligations.WriteRulesWritesStaging : Prop :=
  ∀ (s : State) (r : Request) (rest : List Request) (start : Byte), s.Executes r rest 0x10#8 →
    (∀ entries : List RuleEntry, 1 ≤ entries.length → entries.length ≤ 8 → (∀ e ∈ entries, e.wf = true) →
      r.params = start :: entries.flatMap ruleBytes →
      (96 < start.toNat + entries.length →
        exec .writeRules s = .next (s.answered rest (r.reply .badRange [])))
      ∧ (start.toNat + entries.length ≤ 96 → s.swap ≠ .idle →
        exec .writeRules s = .next (s.answered rest (r.reply .stagingFrozen [])))
      ∧ (start.toNat + entries.length ≤ 96 → s.swap = .idle →
        ∃ t, exec .writeRules s = .next t
          ∧ t = ((s.setStaging { s.stagingBank with rules := t.stagingBank.rules }).answered rest (r.reply .ok []))
          ∧ ∀ k : RuleIndex, t.stagingBank.rules[k] =
              if start.toNat ≤ k.val then (entries[k.val - start.toNat]?).getD s.stagingBank.rules[k]
              else s.stagingBank.rules[k]))
    ∧ (∀ items : List (List Byte), 1 ≤ items.length → items.length ≤ 8 → (∀ x ∈ items, x.length = 24) →
      r.params = start :: items.flatten → (∃ x ∈ items, parseRule x = none) →
      exec .writeRules s = .next (s.answered rest (r.reply .badRange [])))

/-- WRITE CHAIN, WRITE MAP and SET DEFAULT VERDICT write the named chain, the named map entries and the Default Verdict of the
staging bank and nothing else. The step bytes beyond a Step Count of 2 to 8 and the second byte of a DROP entry are not
examined and not stored. A Step Count of 0 writes the empty value, whatever the other bytes are. -/
def Obligations.OtherWritersWriteStaging : Prop :=
  ∀ (s : State) (r : Request) (rest : List Request), s.swap = .idle →
    (∀ (n : ChainId) (d : ChainDef) (beyond : List Byte), s.Executes r rest 0x12#8 → d.wf = true → d.steps ≠ [] →
      d.steps.length + beyond.length = 8 → r.params = BitVec.ofNat 8 n.val :: chainBytes d beyond →
      exec .writeChain s = .next
        ((s.setStaging { s.stagingBank with chains := s.stagingBank.chains.set n d }).answered rest (r.reply .ok [])))
    ∧ (∀ (n : ChainId) (others : List Byte), s.Executes r rest 0x12#8 → others.length = 15 →
      r.params = BitVec.ofNat 8 n.val :: 0x00#8 :: others →
      exec .writeChain s = .next
        ((s.setStaging { s.stagingBank with
            chains := s.stagingBank.chains.set n ⟨[], .strict, 0, .noticeOnly, .identity, 1, false⟩ }).answered rest
          (r.reply .ok [])))
    ∧ (∀ (m : Fin 8) (start : Byte) (entries : List (MapEntry × Byte)), s.Executes r rest 0x14#8 → 1 ≤ entries.length →
      entries.length ≤ 64 → start.toNat + entries.length ≤ 256 →
      r.params = BitVec.ofNat 8 m.val :: start :: entries.flatMap (fun e => mapEntryBytes e.2 e.1) →
      ∃ t, exec .writeMap s = .next t
        ∧ t = ((s.setStaging { s.stagingBank with
            maps := s.stagingBank.maps.set m t.stagingBank.maps[m] }).answered rest (r.reply .ok []))
        ∧ ∀ k : Fin 256, t.stagingBank.maps[m][k] =
            if start.toNat ≤ k.val then ((entries.map Prod.fst)[k.val - start.toNat]?).getD s.stagingBank.maps[m][k]
            else s.stagingBank.maps[m][k])
    ∧ (∀ v : Verdict, s.Executes r rest 0x16#8 → r.params = verdictBytes v →
      exec .setDefaultVerdict s = .next
        ((s.setStaging { s.stagingBank with defaultVerdict := v }).answered rest (r.reply .ok [])))

/-- A writer of staging whose Parameters name something out of range is answered BAD_RANGE; one whose Parameters pass is
answered STAGING_FROZEN while a swap is armed. Either changes no table. -/
def Obligations.WritersRefusedByRangeOrFreeze : Prop :=
  ∀ (s : State) (r : Request) (rest : List Request),
    (∀ (n : Byte) (definition : List Byte), s.Executes r rest 0x12#8 → definition.length = 16 → r.params = n :: definition →
      (15 < n.toNat ∨ parseChain definition = none →
        exec .writeChain s = .next (s.answered rest (r.reply .badRange [])))
      ∧ (n.toNat ≤ 15 → parseChain definition ≠ none → s.swap ≠ .idle →
        exec .writeChain s = .next (s.answered rest (r.reply .stagingFrozen []))))
    ∧ (∀ (m start : Byte) (items : List (List Byte)), s.Executes r rest 0x14#8 → 1 ≤ items.length → items.length ≤ 64 →
      (∀ x ∈ items, x.length = 2) → r.params = m :: start :: items.flatten →
      (7 < m.toNat ∨ 256 < start.toNat + items.length ∨ (∃ x ∈ items, x.head? ≠ some 0x00#8 ∧ x.head? ≠ some 0x01#8) →
        exec .writeMap s = .next (s.answered rest (r.reply .badRange [])))
      ∧ (m.toNat ≤ 7 → start.toNat + items.length ≤ 256 → (∀ x ∈ items, x.head? = some 0x00#8 ∨ x.head? = some 0x01#8) →
        s.swap ≠ .idle → exec .writeMap s = .next (s.answered rest (r.reply .stagingFrozen []))))
    ∧ (s.Executes r rest 0x16#8 → r.params.length = 5 →
      (parseVerdict r.params = none → exec .setDefaultVerdict s = .next (s.answered rest (r.reply .badRange [])))
      ∧ (parseVerdict r.params ≠ none → s.swap ≠ .idle →
        exec .setDefaultVerdict s = .next (s.answered rest (r.reply .stagingFrozen []))))
    ∧ (s.swap ≠ .idle → r.params = [] →
      (s.Executes r rest 0x18#8 → exec .copyBank s = .next (s.answered rest (r.reply .stagingFrozen [])))
      ∧ (s.Executes r rest 0x19#8 → exec .clearStaging s = .next (s.answered rest (r.reply .stagingFrozen []))))

/-- The four readers return the named items of the bank that is ACTIVE or STAGING at the take, and change nothing; a selector,
index or count out of range gives BAD_RANGE. -/
def Obligations.ReadersReturnEntriesByRole : Prop :=
  ∀ (s : State) (r : Request) (rest : List Request) (role : Byte),
    let b := if role = 0x00#8 then s.activeBank else s.stagingBank
    let known := role = 0x00#8 ∨ role = 0x01#8
    let refused := s.answered rest (r.reply .badRange [])
    let returns (bytes : List Byte) := s.answered rest (r.reply .ok bytes)
    let storedChain (d : ChainDef) := chainBytes d (List.replicate (8 - d.steps.length) 0x00#8)
    (∀ start count : Byte, s.Executes r rest 0x11#8 → r.params = [role, start, count] →
      exec .readRules s = .next
        (if known ∧ 1 ≤ count.toNat ∧ count.toNat ≤ 8 ∧ start.toNat + count.toNat ≤ 96 then
          returns (((b.rules.toList.drop start.toNat).take count.toNat).flatMap ruleBytes)
        else refused))
    ∧ (∀ n : Byte, s.Executes r rest 0x13#8 → r.params = [role, n] →
      exec .readChain s = .next
        (if h : known ∧ n.toNat < 16 then returns (storedChain (b.chains[n.toNat]'h.2)) else refused))
    ∧ (∀ m start count : Byte, s.Executes r rest 0x15#8 → r.params = [role, m, start, count] →
      exec .readMap s = .next
        (if h : m.toNat < 8 then
          if known ∧ 1 ≤ count.toNat ∧ count.toNat ≤ 64 ∧ start.toNat + count.toNat ≤ 256 then
            returns ((((b.maps[m.toNat]'h).toList.drop start.toNat).take count.toNat).flatMap (mapEntryBytes 0x00#8))
          else refused
        else refused))
    ∧ (s.Executes r rest 0x17#8 → r.params = [role] →
      exec .readDefaultVerdict s = .next (if known then returns (verdictBytes b.defaultVerdict) else refused))

/-- COPY BANK and CLEAR STAGING that pass their tests with no swap armed begin a long operation: the request leaves the FIFO,
the engine is BUSY with it, and nothing else changes until the completion. -/
def Obligations.LongOperationsBegin : Prop :=
  ∀ (s : State) (r : Request) (rest : List Request), s.swap = .idle → r.params = [] →
    (s.Executes r rest 0x18#8 → exec .copyBank s = .next { s with requestFifo := rest, engine := .copying r 0 })
    ∧ (s.Executes r rest 0x19#8 → exec .clearStaging s = .next { s with requestFifo := rest, engine := .clearing r 0 })

/-- COPY BANK completes: staging holds every table of the active bank, so the two banks are identical; the active bank, the
pointer and the Generation Number stand, and the response is appended. -/
def Obligations.CopyBankMakesStagingIdentical : Prop :=
  ∀ (s : State) (r : Request) (e : Nat), s.resetHeld = false → s.engine = .copying r e →
    ∃ t, exec .copyBankComplete s = .next t
      ∧ t = { s with
              bankA := t.bankA, bankB := t.bankB, engine := .idle
              responses := s.responses ++ [r.reply .ok []], stored := some (r.reply .ok []) }
      ∧ t.stagingBank = s.activeBank ∧ t.activeBank = s.activeBank ∧ t.bankA = t.bankB
      ∧ t.active = s.active ∧ t.generation = s.generation

/-- CLEAR STAGING completes: every table of staging holds its empty value; the active bank, the pointer and the Generation
Number stand, and the response is appended. -/
def Obligations.ClearStagingEmptiesStaging : Prop :=
  ∀ (s : State) (r : Request) (e : Nat), s.resetHeld = false → s.engine = .clearing r e →
    ∃ t, exec .clearStagingComplete s = .next t
      ∧ t = { s with
              bankA := t.bankA, bankB := t.bankB, engine := .idle
              responses := s.responses ++ [r.reply .ok []], stored := some (r.reply .ok []) }
      ∧ (∀ i : RuleIndex, t.stagingBank.rules[i] =
          ⟨false, ⟨Vector.replicate 8 ⟨0#8, 0#8⟩, 0, 248⟩, ⟨.forward, 3, .identity, 0, false⟩⟩)
      ∧ (∀ n : ChainId, t.stagingBank.chains[n] = ⟨[], .strict, 0, .noticeOnly, .identity, 1, false⟩)
      ∧ (∀ (m : Fin 8) (k : Fin 256), t.stagingBank.maps[m][k] = .out (BitVec.ofNat 8 k.val))
      ∧ t.stagingBank.defaultVerdict = ⟨.forward, 3, .identity, 0, false⟩
      ∧ t.activeBank = s.activeBank ∧ t.active = s.active ∧ t.generation = s.generation

/-- ARM SWAP NEXT: SWAP_ARMED while a swap is armed; with an IDLE Classifier the response PERFORMED with the new generation and
bank and then the swap; with a BUSY one ARMED_NEXT and the response ARMED. A Trigger that is neither gives BAD_RANGE. ARM SWAP
MARKER, in the order of R132: an index above 95, an armed swap, an EMPTY entry of the active bank; else ARMED_MARKER with the
index, whether the Classifier is IDLE or BUSY. That the row ARM_SWAP_NEXT takes a request whose Trigger is neither is the
model's reading of the table (log entry 4). -/
def Obligations.ArmSwapPerformsOrArms : Prop :=
  (∀ (s : State) (r : Request) (rest : List Request), s.Executes r rest 0x1A#8 →
     (r.params = [0x01#8] →
       (s.swap ≠ .idle → exec .armSwapNext s = .next (s.answered rest (r.reply .swapArmed [])))
       ∧ (s.swap = .idle → s.classifier = .idle →
         exec .armSwapNext s = .next
           ((s.answered rest (r.reply .ok [0x01#8, s.generation + 1#8,
             match s.active with
             | .a => bankByte .b
             | .b => bankByte .a])).performSwap .next))
       ∧ (s.swap = .idle → s.classifier ≠ .idle →
         exec .armSwapNext s = .next
           (({ s with swap := .armedNext } : State).answered rest (r.reply .ok [0x02#8, s.generation, bankByte s.active]))))
     ∧ (∀ b x : Byte, r.params = [b] ∨ r.params = [b, x] → b ≠ 0x01#8 → b ≠ 0x02#8 →
       exec .armSwapNext s = .next (s.answered rest (r.reply .badRange []))))
  ∧ (∀ (s : State) (r : Request) (rest : List Request) (b : Byte), s.Executes r rest 0x1A#8 → r.params = [0x02#8, b] →
       (95 < b.toNat → exec .armSwapMarker s = .next (s.answered rest (r.reply .badRange [])))
       ∧ (∀ h : b.toNat < 96,
         let m : RuleIndex := ⟨b.toNat, h⟩
         (s.swap ≠ .idle → exec .armSwapMarker s = .next (s.answered rest (r.reply .swapArmed [])))
         ∧ (s.swap = .idle → s.activeBank.rules[m].valid = false →
           exec .armSwapMarker s = .next (s.answered rest (r.reply .badRange [])))
         ∧ (s.swap = .idle → s.activeBank.rules[m].valid = true →
           exec .armSwapMarker s = .next
             (({ s with swap := .armedMarker m } : State).answered rest
               (r.reply .ok [0x02#8, s.generation, bankByte s.active])))))

/-- CANCEL SWAP: a Length other than 0 gives BAD_LENGTH; an armed Swap State becomes IDLE with no swap and no notice, answered
OK; IDLE is answered NOT_ARMED. Taken before a completion it leaves that completion without a swap, and taken after a
completion that performed the armed swap it is answered NOT_ARMED. -/
def Obligations.CancelSwapDisarms : Prop :=
  ∀ (s : State) (r : Request) (rest : List Request), s.Executes r rest 0x1B#8 →
    (r.params ≠ [] → exec .cancelSwap s = .next (s.answered rest (r.reply .badLength [])))
    ∧ (r.params = [] → s.swap ≠ .idle →
      exec .cancelSwap s = .next (({ s with swap := .idle } : State).answered rest (r.reply .ok [])))
    ∧ (r.params = [] → s.swap = .idle → exec .cancelSwap s = .next (s.answered rest (r.reply .notArmed [])))
    ∧ (r.params = [] →
      ∃ t, execAll [.cancelSwap, .classifyComplete] s = .next t
        ∧ t.swap = .idle ∧ t.active = s.active ∧ t.generation = s.generation)
    ∧ (∀ (i : SlotId) (fifo : List SlotId) (b : BankId) (g : Byte) (x : UpRecord), r.params = [] →
      s.Classifies i fifo b g x →
      (s.swap = .armedNext ∨ ∃ m, s.swap = .armedMarker m ∧ (s.context x.channel).state = .opened
        ∧ (s.bank b).rules[m].pattern.matches x = true) →
      ∃ (t u : State) (trigger : SwapTrigger), exec .classifyComplete s = .next t ∧ t = u.performSwap trigger ∧ t.swap = .idle
        ∧ t.generation = s.generation + 1#8
        ∧ exec .cancelSwap t = .next (t.answered rest (r.reply .notArmed [])))

/-- SET QUEUE LIMITS sets the four Limits and removes no entry; SET NOTICE MASK writes the eight enables; a value out of range
gives BAD_RANGE and changes nothing. -/
def Obligations.LimitsAndMaskWrittenWhole : Prop :=
  ∀ (s : State) (r : Request) (rest : List Request),
    (∀ a b c d : Byte, s.Executes r rest 0x20#8 → r.params = [a, b, c, d] →
      let ok (x : Byte) : Prop := 1 ≤ x.toNat ∧ x.toNat ≤ 64
      (ok a ∧ ok b ∧ ok c ∧ ok d →
        exec .setQueueLimits s = .next
          (({ s with
              queues := #v[⟨s.queues[(0 : QueueId)].slots, a.toNat⟩, ⟨s.queues[(1 : QueueId)].slots, b.toNat⟩,
                ⟨s.queues[(2 : QueueId)].slots, c.toNat⟩, ⟨s.queues[(3 : QueueId)].slots, d.toNat⟩] } : State).answered rest
            (r.reply .ok [])))
      ∧ (¬ (ok a ∧ ok b ∧ ok c ∧ ok d) →
        exec .setQueueLimits s = .next (s.answered rest (r.reply .badRange []))))
    ∧ (s.Executes r rest 0x21#8 →
      (∀ m : NoticeMask,
        r.params = [m.lineChange, m.late, m.silent, m.revived, m.chainDone, m.swapDone, m.queueDrop, m.poolDrop].map
          bitByte →
        exec .setNoticeMask s = .next (({ s with noticeMask := m } : State).answered rest (r.reply .ok [])))
      ∧ (r.params.length = 8 → (∃ b ∈ r.params, b ≠ 0x00#8 ∧ b ≠ 0x01#8) →
        exec .setNoticeMask s = .next (s.answered rest (r.reply .badRange []))))

/-- READ COUNTERS returns the counters of its scope in the order of 10.6; with Clear YES it sets them, and no other counter, to
0 in the same event. A Scope, Channel or Clear that is none gives BAD_RANGE; the Channel is not examined for GLOBAL. That the
row READ_COUNTERS takes a request whose Clear is neither value is the model's reading of the table (log entry 4). -/
def Obligations.ReadCountersReportsAndClears : Prop :=
  ∀ (s : State) (r : Request) (rest : List Request) (scope x clear : Byte), s.Executes r rest 0x22#8 →
    r.params = [scope, x, clear] →
    let k := s.counters
    let global : List Byte :=
      ([k.fieldRxGood, k.fieldCheckErr, k.fieldFormatErr, k.fieldLineAbort, k.uplinkRxGood, k.uplinkCheckErr,
          k.uplinkFormatErr, k.uplinkLineAbort, k.badClass, k.downFull, k.downClosed, k.reqDrop, k.poolDrop, k.mapDrop]
        ++ k.queueFull.toList ++ k.sent.toList ++ [k.noticeLost]).flatMap bytes32
    let channel (h : x.toNat < 128) : List Byte :=
      let c := s.context ⟨x.toNat, h⟩
      x :: [c.classified, c.forwarded, c.dropped, c.downSent].flatMap bytes32
    (scope = 0x00#8 → clear = 0x00#8 → exec .readCounters s = .next (s.answered rest (r.reply .ok global)))
    ∧ (scope = 0x00#8 → clear = 0x01#8 →
      exec .readCountersClear s = .next
        (({ s with counters := ⟨0#32, 0#32, 0#32, 0#32, 0#32, 0#32, 0#32, 0#32, 0#32, 0#32, 0#32, 0#32, 0#32, 0#32,
            Vector.replicate 4 0#32, Vector.replicate 4 0#32, 0#32⟩ } : State).answered rest (r.reply .ok global)))
    ∧ (∀ h : x.toNat < 128, scope = 0x01#8 →
      (clear = 0x00#8 → exec .readCounters s = .next (s.answered rest (r.reply .ok (channel h))))
      ∧ (clear = 0x01#8 →
        exec .readCountersClear s = .next
          (({ s with contexts := s.contexts.set x.toNat { s.context ⟨x.toNat, h⟩ with
              classified := 0#32, forwarded := 0#32, dropped := 0#32, downSent := 0#32 } } : State).answered rest
            (r.reply .ok (channel h)))))
    ∧ ((scope ≠ 0x00#8 ∧ scope ≠ 0x01#8) ∨ (scope = 0x01#8 ∧ 127 < x.toNat) →
      (clear ≠ 0x01#8 → exec .readCounters s = .next (s.answered rest (r.reply .badRange [])))
      ∧ (clear = 0x01#8 → exec .readCountersClear s = .next (s.answered rest (r.reply .badRange []))))
    ∧ (clear ≠ 0x00#8 → clear ≠ 0x01#8 → exec .readCounters s = .next (s.answered rest (r.reply .badRange [])))

/-- RESTART TRAFFIC: WAITING and QUEUED slots become FREE, the lists and counters are emptied and zeroed, every context keeps
its configuration and takes its restart values, the Swap State and the Classifier become IDLE, the response is appended and the
Notice Queue holds RESTARTED alone. Everything else is kept; that this holds of the tick claims and window expiries
outstanding is the model's inference (log entry 7). -/
def Obligations.RestartTrafficStartsAfresh : Prop :=
  ∀ (s : State) (r : Request) (rest : List Request), s.Executes r rest 0x30#8 → r.params = [] →
    ∃ t, exec .restartTraffic s = .next t
      ∧ t = ({ s with
                slots := t.slots, classifyFifo := [], outbound := [], contexts := t.contexts, classifier := .idle
                queues := t.queues, swap := .idle, notices := [⟨.restarted, 0x00#8, 2#32⟩]
                counters := ⟨0#32, 0#32, 0#32, 0#32, 0#32, 0#32, 0#32, 0#32, 0#32, 0#32, 0#32, 0#32, 0#32, 0#32,
                  Vector.replicate 4 0#32, Vector.replicate 4 0#32, 0#32⟩ } : State).answered rest (r.reply .ok [])
      ∧ (∀ i, ((∃ x v, s.slot i = .waiting x v) ∨ (∃ x q up, s.slot i = .queued x q up) → t.slot i = .free)
          ∧ ((∃ x, s.slot i = .receiving x) ∨ (∃ x q up, s.slot i = .sending x q up) ∨ s.slot i = .free →
            t.slot i = s.slot i))
      ∧ (∀ q : QueueId, t.queues[q] = ⟨[], s.queues[q].limit⟩)
      ∧ (∀ ch, t.context ch = { s.context ch with
            chainProgress := 0, chainDeadline := none
            watchPhase := if (s.context ch).watchLimit = none ∨ (s.context ch).state = .closed then .off else .idle
            gapCount := 0, lastGap := none, late := false, held := false, new := false, lastRuleRef := none
            classified := 0#32, forwarded := 0#32, dropped := 0#32, downSent := 0#32 })

/-! ## Encodings -/

/-- The entry encodings are those of 11.3 with the codes of 11.2, and are read as they are written: parsing the bytes of a rule
entry, a Verdict, a defined chain, a map entry or an assignment within its ranges gives it back, and whatever parses is within
its ranges and has those bytes, but for the bytes that are not examined: those of a chain beyond its Step Count, all but the
first of a chain whose Step Count is 0, and the second of a DROP. -/
def Obligations.EntryEncodingsRoundTrip : Prop :=
  (∀ e : RuleEntry, e.bytes = ruleBytes e)
  ∧ (∀ v : Verdict, v.bytes = verdictBytes v)
  ∧ (∀ d : ChainDef, d.bytes = chainBytes d (List.replicate (8 - d.steps.length) 0x00#8))
  ∧ (∀ e : MapEntry, e.bytes = mapEntryBytes 0x00#8 e)
  ∧ (∀ e : RuleEntry, e.wf = true → parseRule e.bytes = some e ∧ e.bytes.length = 24)
  ∧ (∀ (bs : List Byte) (e : RuleEntry), bs.length = 24 → parseRule bs = some e → e.bytes = bs ∧ e.wf = true)
  ∧ (∀ v : Verdict, parseVerdict v.bytes = some v ∧ v.bytes.length = 5)
  ∧ (∀ (bs : List Byte) (v : Verdict), bs.length = 5 → parseVerdict bs = some v → v.bytes = bs)
  ∧ (∀ d : ChainDef, d.wf = true → d.steps ≠ [] → parseChain d.bytes = some d ∧ d.bytes.length = 16)
  ∧ (∀ (bs : List Byte) (d : ChainDef), bs.length = 16 → parseChain bs = some d → d.wf = true ∧ parseChain d.bytes = some d)
  ∧ (∀ (d : ChainDef) (beyond : List Byte), d.wf = true → d.steps ≠ [] → d.steps.length + beyond.length = 8 →
      parseChain (chainBytes d beyond) = some d)
  ∧ (∀ (bs : List Byte) (d : ChainDef), bs.length = 16 → bs.head? ≠ some 0x00#8 → parseChain bs = some d →
      ∃ beyond, d.steps.length + beyond.length = 8 ∧ bs = chainBytes d beyond)
  ∧ (∀ others : List Byte, parseChain (0x00#8 :: others) = some ⟨[], .strict, 0, .noticeOnly, .identity, 1, false⟩)
  ∧ (∀ e : MapEntry, parseMapEntry e.bytes = some e)
  ∧ (∀ (e : MapEntry) (second : Byte), parseMapEntry (mapEntryBytes second e) = some e)
  ∧ (∀ (x k : Byte) (e : MapEntry), parseMapEntry [x, k] = some e → [x, k] = mapEntryBytes k e)
  ∧ (∀ a : Assignment, a.wf = true → parseAssignment a.bytes = some a)
  ∧ (∀ (bs : List Byte) (a : Assignment), parseAssignment bs = some a → a.bytes = bs ∧ a.wf = true)

/-! ## Invariants -/

/-- The slots agree with the Classify FIFO, the Forward Queues, the field receiver, the uplink transmitter and the Classifier,
from every state in which they do. -/
def Obligations.PoolAgreementIsKept : Prop := KeptByStep PoolSound

/-- The watch phase, the Gap Count, the Watch Limit and the State of every channel agree, from every state in which they do. -/
def Obligations.WatchAgreementIsKept : Prop := KeptByStep WatchesSound

/-- Every chain run is below the Step Count of the chain that its channel is bound to in the active bank, and a Deadline stands
only with a run, from every state in which that holds. -/
def Obligations.ChainRunsStaySound : Prop := KeptByStep RunsSound

/-- The Forward Queues, the Outbound and Request FIFOs, the Response List and the Notice Queue stay within their capacities; a
DOWN line keeps its receiver in HUNT; and no swap is armed while a long operation runs. Each from every state in which it
holds. -/
def Obligations.CapacitiesAndModesAreKept : Prop :=
  (KeptByStep QueuesBounded ∧ KeptByStep ListsBounded ∧ KeptByStep NoticesBounded)
  ∧ (KeptByStep DownLinesHunt ∧ KeptByStep LongUnarmed)

/-- The state after reset meets every invariant. -/
def Obligations.ResetMeetsTheInvariants : Prop :=
  PoolSound State.reset ∧ WatchesSound State.reset ∧ RunsSound State.reset ∧ QueuesBounded State.reset
    ∧ ListsBounded State.reset ∧ NoticesBounded State.reset ∧ DownLinesHunt State.reset ∧ LongUnarmed State.reset

/-! ## Rules of the whole machine -/

/-- No command writes the bank that is active when it is taken, and while a swap is armed no table of either bank changes. A bank
changes only in the events of the writers of staging: WRITE RULES, WRITE CHAIN, WRITE MAP, SET DEFAULT VERDICT and the
completions of COPY BANK and CLEAR STAGING. The Generation Number and the active bank change only together, in a swap: by one, to the other bank, with every chain run
cleared, the Swap State and the Classifier IDLE, and only in ARM SWAP NEXT or a completion. POWER_ON_RESET apart. -/
def Obligations.BanksAndGenerationChangeOnlyByTheirEvents : Prop :=
  (∀ (c : Instr) (s t : State), c ≠ .powerOnReset → exec c s = .next t →
     t.bank s.active = s.bank s.active
     ∧ (LongUnarmed s → s.swap ≠ .idle → t.bankA = s.bankA ∧ t.bankB = s.bankB)
     ∧ (t.bankA ≠ s.bankA ∨ t.bankB ≠ s.bankB →
         c ∈ [Instr.writeRules, .writeChain, .writeMap, .setDefaultVerdict, .copyBankComplete, .clearStagingComplete]))
  ∧ (∀ (c : Instr) (s t : State), c ≠ .powerOnReset → exec c s = .next t →
       (t.generation = s.generation ∧ t.active = s.active)
       ∨ (t.generation = s.generation + 1#8 ∧ t.active ≠ s.active ∧ t.swap = .idle ∧ t.classifier = .idle
           ∧ (∀ ch, (t.context ch).chainProgress = 0 ∧ (t.context ch).chainDeadline = none)
           ∧ (c = .armSwapNext ∨ c = .classifyComplete)))

/-- Each of a context's fields changes only in the events that the manual names for it: the configuration fields (R35), the
chain run (R90), the watch (R109 to R117), the Last Gap and the flags, each with what sets and what clears it (R118), the Last
Rule Ref (R37) and the counters (R51). The resets apart. That WATCH_TICK, LIMIT_EXPIRY and SILENCE_EXPIRY all take a tick
claim, with the expiries that it brings, is the model's reading (log entry 6). -/
def Obligations.ContextFieldsChangeOnlyInTheirEvents : Prop :=
  ∀ (c : Instr) (s t : State) (ch : Channel), c ≠ .powerOnReset → (∀ b, c ≠ .resetRelease b) → exec c s = .next t →
    let x := s.context ch
    let y := t.context ch
    let tick := c = .watchTick ch ∨ c = .limitExpiry ch ∨ c = .silenceExpiry ch
    ((y.chainBinding ≠ x.chainBinding ∨ y.watchLimit ≠ x.watchLimit ∨ y.silenceAction ≠ x.silenceAction
        ∨ y.notify ≠ x.notify) → c = .modifyContextChannel)
    ∧ (y.state ≠ x.state → c = .modifyContextChannel ∨ c = .classifyComplete ∨ tick)
    ∧ ((y.overrideMap ≠ x.overrideMap ∨ y.overrideCount ≠ x.overrideCount) →
        c = .modifyContextChannel ∨ c = .classifyComplete)
    ∧ ((y.chainProgress ≠ x.chainProgress ∨ y.chainDeadline ≠ x.chainDeadline) →
        c = .classifyComplete ∨ c = .windowExpiry ch ∨ c = .modifyContextChannel ∨ tick ∨ c = .armSwapNext
          ∨ c = .restartTraffic)
    ∧ ((y.watchPhase ≠ x.watchPhase ∨ y.gapCount ≠ x.gapCount) →
        c = .classifyComplete ∨ c = .modifyContextChannel ∨ tick ∨ c = .restartTraffic)
    ∧ (y.lastGap ≠ x.lastGap →
        (c = .classifyComplete ∧ x.held = false ∧ y.new = true) ∨ (c = .restartTraffic ∧ y.lastGap = none))
    ∧ (x.late = false → y.late = true → x.watchPhase = .running ∧ (tick ∨ c = .modifyContextChannel))
    ∧ (x.held = false → y.held = true → c = .classifyComplete ∧ (x.watchPhase = .overdue ∨ x.watchPhase = .silent))
    ∧ (x.new = false → y.new = true →
        c = .classifyComplete ∧ x.held = false
          ∧ ((x.watchPhase = .running ∨ x.watchPhase = .overdue) ∧ y.lastGap = some x.gapCount
              ∨ x.watchPhase = .silent ∧ y.lastGap = some 60000))
    ∧ (x.held = true → y.held = false → c = .ackWatchChannel ∨ c = .restartTraffic)
    ∧ (x.late = true → y.late = false → c = .ackWatchChannel ∨ c = .restartTraffic)
    ∧ (x.new = true → y.new = false → c = .readWatch ∨ c = .restartTraffic)
    ∧ (y.lastRuleRef ≠ x.lastRuleRef → c = .classifyComplete ∨ c = .restartTraffic)
    ∧ ((y.classified ≠ x.classified ∨ y.forwarded ≠ x.forwarded ∨ y.dropped ≠ x.dropped) →
        c = .classifyComplete ∨ c = .readCountersClear ∨ c = .restartTraffic)
    ∧ (y.downSent ≠ x.downSent → c = .fieldTransmitStart ∨ c = .readCountersClear ∨ c = .restartTraffic)

/-- A QUEUED slot keeps its record and DATA_UP contents until it is granted, when it is SENDING with the same contents, or
freed by RESTART TRAFFIC or power-on reset. -/
def Obligations.QueuedRecordsKeepTheirContents : Prop :=
  ∀ (c : Instr) (s t : State) (i : SlotId) (r : UpRecord) (q : QueueId) (up : UpContents), PoolSound s →
    s.slot i = .queued r q up → exec c s = .next t →
    t.slot i = .queued r q up
    ∨ (t.slot i = .sending r q up ∧ c = .uplinkGrant)
    ∨ (t.slot i = .free ∧ (c = .restartTraffic ∨ c = .powerOnReset))

end
end

