-- ==== Sys2Proof/Laws/State.lean ====
section
/-! SUPPORT. One lemma for each field and each named update of State: what the update writes, and that it leaves the other
fields. With them no proof unfolds a record update. -/

namespace Sys2Proof.Machine

/-! ## A context written -/

section

variable (s : State) (ch : Channel) (c : Context)

@[simp] theorem State.setContext_resetHeld : (s.setContext ch c).resetHeld = s.resetHeld := rfl
@[simp] theorem State.setContext_timebase : (s.setContext ch c).timebase = s.timebase := rfl
@[simp] theorem State.setContext_fieldMonitor : (s.setContext ch c).fieldMonitor = s.fieldMonitor := rfl
@[simp] theorem State.setContext_uplinkMonitor : (s.setContext ch c).uplinkMonitor = s.uplinkMonitor := rfl
@[simp] theorem State.setContext_fieldRx : (s.setContext ch c).fieldRx = s.fieldRx := rfl
@[simp] theorem State.setContext_uplinkRx : (s.setContext ch c).uplinkRx = s.uplinkRx := rfl
@[simp] theorem State.setContext_fieldTx : (s.setContext ch c).fieldTx = s.fieldTx := rfl
@[simp] theorem State.setContext_uplinkTx : (s.setContext ch c).uplinkTx = s.uplinkTx := rfl
@[simp] theorem State.setContext_slots : (s.setContext ch c).slots = s.slots := rfl
@[simp] theorem State.setContext_classifyFifo : (s.setContext ch c).classifyFifo = s.classifyFifo := rfl
@[simp] theorem State.setContext_outbound : (s.setContext ch c).outbound = s.outbound := rfl
@[simp] theorem State.setContext_contexts : (s.setContext ch c).contexts = s.contexts.set ch c := rfl
@[simp] theorem State.setContext_watchClaims : (s.setContext ch c).watchClaims = s.watchClaims := rfl
@[simp] theorem State.setContext_windowClaims : (s.setContext ch c).windowClaims = s.windowClaims := rfl
@[simp] theorem State.setContext_classifier : (s.setContext ch c).classifier = s.classifier := rfl
@[simp] theorem State.setContext_queues : (s.setContext ch c).queues = s.queues := rfl
@[simp] theorem State.setContext_bankA : (s.setContext ch c).bankA = s.bankA := rfl
@[simp] theorem State.setContext_bankB : (s.setContext ch c).bankB = s.bankB := rfl
@[simp] theorem State.setContext_active : (s.setContext ch c).active = s.active := rfl
@[simp] theorem State.setContext_generation : (s.setContext ch c).generation = s.generation := rfl
@[simp] theorem State.setContext_swap : (s.setContext ch c).swap = s.swap := rfl
@[simp] theorem State.setContext_responses : (s.setContext ch c).responses = s.responses := rfl
@[simp] theorem State.setContext_notices : (s.setContext ch c).notices = s.notices := rfl
@[simp] theorem State.setContext_noticeMask : (s.setContext ch c).noticeMask = s.noticeMask := rfl
@[simp] theorem State.setContext_noticeNumber : (s.setContext ch c).noticeNumber = s.noticeNumber := rfl
@[simp] theorem State.setContext_requestFifo : (s.setContext ch c).requestFifo = s.requestFifo := rfl
@[simp] theorem State.setContext_engine : (s.setContext ch c).engine = s.engine := rfl
@[simp] theorem State.setContext_stored : (s.setContext ch c).stored = s.stored := rfl
@[simp] theorem State.setContext_counters : (s.setContext ch c).counters = s.counters := rfl
@[simp] theorem State.setContext_pending : (s.setContext ch c).pending = s.pending := rfl

end

/-! ## A slot written -/

section

variable (s : State) (i : SlotId) (x : Slot)

@[simp] theorem State.setSlot_resetHeld : (s.setSlot i x).resetHeld = s.resetHeld := rfl
@[simp] theorem State.setSlot_timebase : (s.setSlot i x).timebase = s.timebase := rfl
@[simp] theorem State.setSlot_fieldMonitor : (s.setSlot i x).fieldMonitor = s.fieldMonitor := rfl
@[simp] theorem State.setSlot_uplinkMonitor : (s.setSlot i x).uplinkMonitor = s.uplinkMonitor := rfl
@[simp] theorem State.setSlot_fieldRx : (s.setSlot i x).fieldRx = s.fieldRx := rfl
@[simp] theorem State.setSlot_uplinkRx : (s.setSlot i x).uplinkRx = s.uplinkRx := rfl
@[simp] theorem State.setSlot_fieldTx : (s.setSlot i x).fieldTx = s.fieldTx := rfl
@[simp] theorem State.setSlot_uplinkTx : (s.setSlot i x).uplinkTx = s.uplinkTx := rfl
@[simp] theorem State.setSlot_slots : (s.setSlot i x).slots = s.slots.set i x := rfl
@[simp] theorem State.setSlot_classifyFifo : (s.setSlot i x).classifyFifo = s.classifyFifo := rfl
@[simp] theorem State.setSlot_outbound : (s.setSlot i x).outbound = s.outbound := rfl
@[simp] theorem State.setSlot_contexts : (s.setSlot i x).contexts = s.contexts := rfl
@[simp] theorem State.setSlot_watchClaims : (s.setSlot i x).watchClaims = s.watchClaims := rfl
@[simp] theorem State.setSlot_windowClaims : (s.setSlot i x).windowClaims = s.windowClaims := rfl
@[simp] theorem State.setSlot_classifier : (s.setSlot i x).classifier = s.classifier := rfl
@[simp] theorem State.setSlot_queues : (s.setSlot i x).queues = s.queues := rfl
@[simp] theorem State.setSlot_bankA : (s.setSlot i x).bankA = s.bankA := rfl
@[simp] theorem State.setSlot_bankB : (s.setSlot i x).bankB = s.bankB := rfl
@[simp] theorem State.setSlot_active : (s.setSlot i x).active = s.active := rfl
@[simp] theorem State.setSlot_generation : (s.setSlot i x).generation = s.generation := rfl
@[simp] theorem State.setSlot_swap : (s.setSlot i x).swap = s.swap := rfl
@[simp] theorem State.setSlot_responses : (s.setSlot i x).responses = s.responses := rfl
@[simp] theorem State.setSlot_notices : (s.setSlot i x).notices = s.notices := rfl
@[simp] theorem State.setSlot_noticeMask : (s.setSlot i x).noticeMask = s.noticeMask := rfl
@[simp] theorem State.setSlot_noticeNumber : (s.setSlot i x).noticeNumber = s.noticeNumber := rfl
@[simp] theorem State.setSlot_requestFifo : (s.setSlot i x).requestFifo = s.requestFifo := rfl
@[simp] theorem State.setSlot_engine : (s.setSlot i x).engine = s.engine := rfl
@[simp] theorem State.setSlot_stored : (s.setSlot i x).stored = s.stored := rfl
@[simp] theorem State.setSlot_counters : (s.setSlot i x).counters = s.counters := rfl
@[simp] theorem State.setSlot_pending : (s.setSlot i x).pending = s.pending := rfl

end

/-! ## A notice raised -/

section

variable (s : State) (n : Notice)

@[simp] theorem State.raise_resetHeld : (s.raise n).resetHeld = s.resetHeld := rfl
@[simp] theorem State.raise_timebase : (s.raise n).timebase = s.timebase := rfl
@[simp] theorem State.raise_fieldMonitor : (s.raise n).fieldMonitor = s.fieldMonitor := rfl
@[simp] theorem State.raise_uplinkMonitor : (s.raise n).uplinkMonitor = s.uplinkMonitor := rfl
@[simp] theorem State.raise_fieldRx : (s.raise n).fieldRx = s.fieldRx := rfl
@[simp] theorem State.raise_uplinkRx : (s.raise n).uplinkRx = s.uplinkRx := rfl
@[simp] theorem State.raise_fieldTx : (s.raise n).fieldTx = s.fieldTx := rfl
@[simp] theorem State.raise_uplinkTx : (s.raise n).uplinkTx = s.uplinkTx := rfl
@[simp] theorem State.raise_slots : (s.raise n).slots = s.slots := rfl
@[simp] theorem State.raise_classifyFifo : (s.raise n).classifyFifo = s.classifyFifo := rfl
@[simp] theorem State.raise_outbound : (s.raise n).outbound = s.outbound := rfl
@[simp] theorem State.raise_contexts : (s.raise n).contexts = s.contexts := rfl
@[simp] theorem State.raise_watchClaims : (s.raise n).watchClaims = s.watchClaims := rfl
@[simp] theorem State.raise_windowClaims : (s.raise n).windowClaims = s.windowClaims := rfl
@[simp] theorem State.raise_classifier : (s.raise n).classifier = s.classifier := rfl
@[simp] theorem State.raise_queues : (s.raise n).queues = s.queues := rfl
@[simp] theorem State.raise_bankA : (s.raise n).bankA = s.bankA := rfl
@[simp] theorem State.raise_bankB : (s.raise n).bankB = s.bankB := rfl
@[simp] theorem State.raise_active : (s.raise n).active = s.active := rfl
@[simp] theorem State.raise_generation : (s.raise n).generation = s.generation := rfl
@[simp] theorem State.raise_swap : (s.raise n).swap = s.swap := rfl
@[simp] theorem State.raise_responses : (s.raise n).responses = s.responses := rfl
@[simp] theorem State.raise_notices : (s.raise n).notices = offerNotice s.noticeMask s.notices n := rfl
@[simp] theorem State.raise_noticeMask : (s.raise n).noticeMask = s.noticeMask := rfl
@[simp] theorem State.raise_noticeNumber : (s.raise n).noticeNumber = s.noticeNumber := rfl
@[simp] theorem State.raise_requestFifo : (s.raise n).requestFifo = s.requestFifo := rfl
@[simp] theorem State.raise_engine : (s.raise n).engine = s.engine := rfl
@[simp] theorem State.raise_stored : (s.raise n).stored = s.stored := rfl
@[simp] theorem State.raise_counters : (s.raise n).counters = { s.counters with noticeLost := lostAfter s.noticeMask s.notices n s.counters.noticeLost } := rfl
@[simp] theorem State.raise_pending : (s.raise n).pending = s.pending := rfl

end

/-! ## Several notices raised -/

@[simp] theorem State.raiseAll_nil (s : State) : s.raiseAll [] = s := rfl

@[simp] theorem State.raiseAll_cons (s : State) (n : Notice) (ns : List Notice) :
    s.raiseAll (n :: ns) = (s.raise n).raiseAll ns := rfl

/-- Raising notices writes the Notice Queue and NOTICE_LOST, and nothing else. -/
theorem State.raiseAll_eq (s : State) (ns : List Notice) :
    s.raiseAll ns = { s with
      notices := (s.raiseAll ns).notices
      counters := { s.counters with noticeLost := (s.raiseAll ns).counters.noticeLost } } := by
  induction ns generalizing s with
  | nil => rfl
  | cons n ns ih => rw [raiseAll_cons, ih]; rfl

/-! ## Several notices raised, by field -/

section

variable (s : State) (ns : List Notice)

@[simp] theorem State.raiseAll_resetHeld : (s.raiseAll ns).resetHeld = s.resetHeld := by rw [raiseAll_eq]
@[simp] theorem State.raiseAll_timebase : (s.raiseAll ns).timebase = s.timebase := by rw [raiseAll_eq]
@[simp] theorem State.raiseAll_fieldMonitor : (s.raiseAll ns).fieldMonitor = s.fieldMonitor := by rw [raiseAll_eq]
@[simp] theorem State.raiseAll_uplinkMonitor : (s.raiseAll ns).uplinkMonitor = s.uplinkMonitor := by rw [raiseAll_eq]
@[simp] theorem State.raiseAll_fieldRx : (s.raiseAll ns).fieldRx = s.fieldRx := by rw [raiseAll_eq]
@[simp] theorem State.raiseAll_uplinkRx : (s.raiseAll ns).uplinkRx = s.uplinkRx := by rw [raiseAll_eq]
@[simp] theorem State.raiseAll_fieldTx : (s.raiseAll ns).fieldTx = s.fieldTx := by rw [raiseAll_eq]
@[simp] theorem State.raiseAll_uplinkTx : (s.raiseAll ns).uplinkTx = s.uplinkTx := by rw [raiseAll_eq]
@[simp] theorem State.raiseAll_slots : (s.raiseAll ns).slots = s.slots := by rw [raiseAll_eq]
@[simp] theorem State.raiseAll_classifyFifo : (s.raiseAll ns).classifyFifo = s.classifyFifo := by rw [raiseAll_eq]
@[simp] theorem State.raiseAll_outbound : (s.raiseAll ns).outbound = s.outbound := by rw [raiseAll_eq]
@[simp] theorem State.raiseAll_contexts : (s.raiseAll ns).contexts = s.contexts := by rw [raiseAll_eq]
@[simp] theorem State.raiseAll_watchClaims : (s.raiseAll ns).watchClaims = s.watchClaims := by rw [raiseAll_eq]
@[simp] theorem State.raiseAll_windowClaims : (s.raiseAll ns).windowClaims = s.windowClaims := by rw [raiseAll_eq]
@[simp] theorem State.raiseAll_classifier : (s.raiseAll ns).classifier = s.classifier := by rw [raiseAll_eq]
@[simp] theorem State.raiseAll_queues : (s.raiseAll ns).queues = s.queues := by rw [raiseAll_eq]
@[simp] theorem State.raiseAll_bankA : (s.raiseAll ns).bankA = s.bankA := by rw [raiseAll_eq]
@[simp] theorem State.raiseAll_bankB : (s.raiseAll ns).bankB = s.bankB := by rw [raiseAll_eq]
@[simp] theorem State.raiseAll_active : (s.raiseAll ns).active = s.active := by rw [raiseAll_eq]
@[simp] theorem State.raiseAll_generation : (s.raiseAll ns).generation = s.generation := by rw [raiseAll_eq]
@[simp] theorem State.raiseAll_swap : (s.raiseAll ns).swap = s.swap := by rw [raiseAll_eq]
@[simp] theorem State.raiseAll_responses : (s.raiseAll ns).responses = s.responses := by rw [raiseAll_eq]
@[simp] theorem State.raiseAll_noticeMask : (s.raiseAll ns).noticeMask = s.noticeMask := by rw [raiseAll_eq]
@[simp] theorem State.raiseAll_noticeNumber : (s.raiseAll ns).noticeNumber = s.noticeNumber := by rw [raiseAll_eq]
@[simp] theorem State.raiseAll_requestFifo : (s.raiseAll ns).requestFifo = s.requestFifo := by rw [raiseAll_eq]
@[simp] theorem State.raiseAll_engine : (s.raiseAll ns).engine = s.engine := by rw [raiseAll_eq]
@[simp] theorem State.raiseAll_stored : (s.raiseAll ns).stored = s.stored := by rw [raiseAll_eq]
@[simp] theorem State.raiseAll_pending : (s.raiseAll ns).pending = s.pending := by rw [raiseAll_eq]

end

/-! ## A response appended -/

section

variable (s : State) (r : Request) (st : Status) (bs : List Byte)

@[simp] theorem State.respond_resetHeld : (s.respond r st bs).resetHeld = s.resetHeld := rfl
@[simp] theorem State.respond_timebase : (s.respond r st bs).timebase = s.timebase := rfl
@[simp] theorem State.respond_fieldMonitor : (s.respond r st bs).fieldMonitor = s.fieldMonitor := rfl
@[simp] theorem State.respond_uplinkMonitor : (s.respond r st bs).uplinkMonitor = s.uplinkMonitor := rfl
@[simp] theorem State.respond_fieldRx : (s.respond r st bs).fieldRx = s.fieldRx := rfl
@[simp] theorem State.respond_uplinkRx : (s.respond r st bs).uplinkRx = s.uplinkRx := rfl
@[simp] theorem State.respond_fieldTx : (s.respond r st bs).fieldTx = s.fieldTx := rfl
@[simp] theorem State.respond_uplinkTx : (s.respond r st bs).uplinkTx = s.uplinkTx := rfl
@[simp] theorem State.respond_slots : (s.respond r st bs).slots = s.slots := rfl
@[simp] theorem State.respond_classifyFifo : (s.respond r st bs).classifyFifo = s.classifyFifo := rfl
@[simp] theorem State.respond_outbound : (s.respond r st bs).outbound = s.outbound := rfl
@[simp] theorem State.respond_contexts : (s.respond r st bs).contexts = s.contexts := rfl
@[simp] theorem State.respond_watchClaims : (s.respond r st bs).watchClaims = s.watchClaims := rfl
@[simp] theorem State.respond_windowClaims : (s.respond r st bs).windowClaims = s.windowClaims := rfl
@[simp] theorem State.respond_classifier : (s.respond r st bs).classifier = s.classifier := rfl
@[simp] theorem State.respond_queues : (s.respond r st bs).queues = s.queues := rfl
@[simp] theorem State.respond_bankA : (s.respond r st bs).bankA = s.bankA := rfl
@[simp] theorem State.respond_bankB : (s.respond r st bs).bankB = s.bankB := rfl
@[simp] theorem State.respond_active : (s.respond r st bs).active = s.active := rfl
@[simp] theorem State.respond_generation : (s.respond r st bs).generation = s.generation := rfl
@[simp] theorem State.respond_swap : (s.respond r st bs).swap = s.swap := rfl
@[simp] theorem State.respond_responses : (s.respond r st bs).responses = s.responses ++ [r.answer st bs] := rfl
@[simp] theorem State.respond_notices : (s.respond r st bs).notices = s.notices := rfl
@[simp] theorem State.respond_noticeMask : (s.respond r st bs).noticeMask = s.noticeMask := rfl
@[simp] theorem State.respond_noticeNumber : (s.respond r st bs).noticeNumber = s.noticeNumber := rfl
@[simp] theorem State.respond_requestFifo : (s.respond r st bs).requestFifo = s.requestFifo := rfl
@[simp] theorem State.respond_engine : (s.respond r st bs).engine = .idle := rfl
@[simp] theorem State.respond_stored : (s.respond r st bs).stored = some (r.answer st bs) := rfl
@[simp] theorem State.respond_counters : (s.respond r st bs).counters = s.counters := rfl
@[simp] theorem State.respond_pending : (s.respond r st bs).pending = s.pending := rfl

end

/-! ## The field receiver's phase -/

section

variable (s : State) (p : FieldPhase)

@[simp] theorem State.setFieldPhase_resetHeld : (s.setFieldPhase p).resetHeld = s.resetHeld := rfl
@[simp] theorem State.setFieldPhase_timebase : (s.setFieldPhase p).timebase = s.timebase := rfl
@[simp] theorem State.setFieldPhase_fieldMonitor : (s.setFieldPhase p).fieldMonitor = s.fieldMonitor := rfl
@[simp] theorem State.setFieldPhase_uplinkMonitor : (s.setFieldPhase p).uplinkMonitor = s.uplinkMonitor := rfl
@[simp] theorem State.setFieldPhase_fieldRx : (s.setFieldPhase p).fieldRx = { s.fieldRx with phase := p } := rfl
@[simp] theorem State.setFieldPhase_uplinkRx : (s.setFieldPhase p).uplinkRx = s.uplinkRx := rfl
@[simp] theorem State.setFieldPhase_fieldTx : (s.setFieldPhase p).fieldTx = s.fieldTx := rfl
@[simp] theorem State.setFieldPhase_uplinkTx : (s.setFieldPhase p).uplinkTx = s.uplinkTx := rfl
@[simp] theorem State.setFieldPhase_slots : (s.setFieldPhase p).slots = s.slots := rfl
@[simp] theorem State.setFieldPhase_classifyFifo : (s.setFieldPhase p).classifyFifo = s.classifyFifo := rfl
@[simp] theorem State.setFieldPhase_outbound : (s.setFieldPhase p).outbound = s.outbound := rfl
@[simp] theorem State.setFieldPhase_contexts : (s.setFieldPhase p).contexts = s.contexts := rfl
@[simp] theorem State.setFieldPhase_watchClaims : (s.setFieldPhase p).watchClaims = s.watchClaims := rfl
@[simp] theorem State.setFieldPhase_windowClaims : (s.setFieldPhase p).windowClaims = s.windowClaims := rfl
@[simp] theorem State.setFieldPhase_classifier : (s.setFieldPhase p).classifier = s.classifier := rfl
@[simp] theorem State.setFieldPhase_queues : (s.setFieldPhase p).queues = s.queues := rfl
@[simp] theorem State.setFieldPhase_bankA : (s.setFieldPhase p).bankA = s.bankA := rfl
@[simp] theorem State.setFieldPhase_bankB : (s.setFieldPhase p).bankB = s.bankB := rfl
@[simp] theorem State.setFieldPhase_active : (s.setFieldPhase p).active = s.active := rfl
@[simp] theorem State.setFieldPhase_generation : (s.setFieldPhase p).generation = s.generation := rfl
@[simp] theorem State.setFieldPhase_swap : (s.setFieldPhase p).swap = s.swap := rfl
@[simp] theorem State.setFieldPhase_responses : (s.setFieldPhase p).responses = s.responses := rfl
@[simp] theorem State.setFieldPhase_notices : (s.setFieldPhase p).notices = s.notices := rfl
@[simp] theorem State.setFieldPhase_noticeMask : (s.setFieldPhase p).noticeMask = s.noticeMask := rfl
@[simp] theorem State.setFieldPhase_noticeNumber : (s.setFieldPhase p).noticeNumber = s.noticeNumber := rfl
@[simp] theorem State.setFieldPhase_requestFifo : (s.setFieldPhase p).requestFifo = s.requestFifo := rfl
@[simp] theorem State.setFieldPhase_engine : (s.setFieldPhase p).engine = s.engine := rfl
@[simp] theorem State.setFieldPhase_stored : (s.setFieldPhase p).stored = s.stored := rfl
@[simp] theorem State.setFieldPhase_counters : (s.setFieldPhase p).counters = s.counters := rfl
@[simp] theorem State.setFieldPhase_pending : (s.setFieldPhase p).pending = s.pending := rfl

end

/-! ## The uplink receiver's phase and staging -/

section

variable (s : State) (p : UplinkPhase) (bs : List Byte)

@[simp] theorem State.setUplinkPhase_resetHeld : (s.setUplinkPhase p bs).resetHeld = s.resetHeld := rfl
@[simp] theorem State.setUplinkPhase_timebase : (s.setUplinkPhase p bs).timebase = s.timebase := rfl
@[simp] theorem State.setUplinkPhase_fieldMonitor : (s.setUplinkPhase p bs).fieldMonitor = s.fieldMonitor := rfl
@[simp] theorem State.setUplinkPhase_uplinkMonitor : (s.setUplinkPhase p bs).uplinkMonitor = s.uplinkMonitor := rfl
@[simp] theorem State.setUplinkPhase_fieldRx : (s.setUplinkPhase p bs).fieldRx = s.fieldRx := rfl
@[simp] theorem State.setUplinkPhase_uplinkRx : (s.setUplinkPhase p bs).uplinkRx = { s.uplinkRx with phase := p, staging := bs } := rfl
@[simp] theorem State.setUplinkPhase_fieldTx : (s.setUplinkPhase p bs).fieldTx = s.fieldTx := rfl
@[simp] theorem State.setUplinkPhase_uplinkTx : (s.setUplinkPhase p bs).uplinkTx = s.uplinkTx := rfl
@[simp] theorem State.setUplinkPhase_slots : (s.setUplinkPhase p bs).slots = s.slots := rfl
@[simp] theorem State.setUplinkPhase_classifyFifo : (s.setUplinkPhase p bs).classifyFifo = s.classifyFifo := rfl
@[simp] theorem State.setUplinkPhase_outbound : (s.setUplinkPhase p bs).outbound = s.outbound := rfl
@[simp] theorem State.setUplinkPhase_contexts : (s.setUplinkPhase p bs).contexts = s.contexts := rfl
@[simp] theorem State.setUplinkPhase_watchClaims : (s.setUplinkPhase p bs).watchClaims = s.watchClaims := rfl
@[simp] theorem State.setUplinkPhase_windowClaims : (s.setUplinkPhase p bs).windowClaims = s.windowClaims := rfl
@[simp] theorem State.setUplinkPhase_classifier : (s.setUplinkPhase p bs).classifier = s.classifier := rfl
@[simp] theorem State.setUplinkPhase_queues : (s.setUplinkPhase p bs).queues = s.queues := rfl
@[simp] theorem State.setUplinkPhase_bankA : (s.setUplinkPhase p bs).bankA = s.bankA := rfl
@[simp] theorem State.setUplinkPhase_bankB : (s.setUplinkPhase p bs).bankB = s.bankB := rfl
@[simp] theorem State.setUplinkPhase_active : (s.setUplinkPhase p bs).active = s.active := rfl
@[simp] theorem State.setUplinkPhase_generation : (s.setUplinkPhase p bs).generation = s.generation := rfl
@[simp] theorem State.setUplinkPhase_swap : (s.setUplinkPhase p bs).swap = s.swap := rfl
@[simp] theorem State.setUplinkPhase_responses : (s.setUplinkPhase p bs).responses = s.responses := rfl
@[simp] theorem State.setUplinkPhase_notices : (s.setUplinkPhase p bs).notices = s.notices := rfl
@[simp] theorem State.setUplinkPhase_noticeMask : (s.setUplinkPhase p bs).noticeMask = s.noticeMask := rfl
@[simp] theorem State.setUplinkPhase_noticeNumber : (s.setUplinkPhase p bs).noticeNumber = s.noticeNumber := rfl
@[simp] theorem State.setUplinkPhase_requestFifo : (s.setUplinkPhase p bs).requestFifo = s.requestFifo := rfl
@[simp] theorem State.setUplinkPhase_engine : (s.setUplinkPhase p bs).engine = s.engine := rfl
@[simp] theorem State.setUplinkPhase_stored : (s.setUplinkPhase p bs).stored = s.stored := rfl
@[simp] theorem State.setUplinkPhase_counters : (s.setUplinkPhase p bs).counters = s.counters := rfl
@[simp] theorem State.setUplinkPhase_pending : (s.setUplinkPhase p bs).pending = s.pending := rfl

end

/-! ## A swap -/

section

variable (s : State) (t : SwapTrigger)

@[simp] theorem State.performSwap_resetHeld : (s.performSwap t).resetHeld = s.resetHeld := rfl
@[simp] theorem State.performSwap_timebase : (s.performSwap t).timebase = s.timebase := rfl
@[simp] theorem State.performSwap_fieldMonitor : (s.performSwap t).fieldMonitor = s.fieldMonitor := rfl
@[simp] theorem State.performSwap_uplinkMonitor : (s.performSwap t).uplinkMonitor = s.uplinkMonitor := rfl
@[simp] theorem State.performSwap_fieldRx : (s.performSwap t).fieldRx = s.fieldRx := rfl
@[simp] theorem State.performSwap_uplinkRx : (s.performSwap t).uplinkRx = s.uplinkRx := rfl
@[simp] theorem State.performSwap_fieldTx : (s.performSwap t).fieldTx = s.fieldTx := rfl
@[simp] theorem State.performSwap_uplinkTx : (s.performSwap t).uplinkTx = s.uplinkTx := rfl
@[simp] theorem State.performSwap_slots : (s.performSwap t).slots = s.slots := rfl
@[simp] theorem State.performSwap_classifyFifo : (s.performSwap t).classifyFifo = s.classifyFifo := rfl
@[simp] theorem State.performSwap_outbound : (s.performSwap t).outbound = s.outbound := rfl
@[simp] theorem State.performSwap_contexts : (s.performSwap t).contexts = s.contexts.map Context.clearRun := rfl
@[simp] theorem State.performSwap_watchClaims : (s.performSwap t).watchClaims = s.watchClaims := rfl
@[simp] theorem State.performSwap_windowClaims : (s.performSwap t).windowClaims = s.windowClaims := rfl
@[simp] theorem State.performSwap_classifier : (s.performSwap t).classifier = s.classifier := rfl
@[simp] theorem State.performSwap_queues : (s.performSwap t).queues = s.queues := rfl
@[simp] theorem State.performSwap_bankA : (s.performSwap t).bankA = s.bankA := rfl
@[simp] theorem State.performSwap_bankB : (s.performSwap t).bankB = s.bankB := rfl
@[simp] theorem State.performSwap_active : (s.performSwap t).active = s.active.other := rfl
@[simp] theorem State.performSwap_generation : (s.performSwap t).generation = s.generation + 1#8 := rfl
@[simp] theorem State.performSwap_swap : (s.performSwap t).swap = .idle := rfl
@[simp] theorem State.performSwap_responses : (s.performSwap t).responses = s.responses := rfl
@[simp] theorem State.performSwap_noticeMask : (s.performSwap t).noticeMask = s.noticeMask := rfl
@[simp] theorem State.performSwap_noticeNumber : (s.performSwap t).noticeNumber = s.noticeNumber := rfl
@[simp] theorem State.performSwap_requestFifo : (s.performSwap t).requestFifo = s.requestFifo := rfl
@[simp] theorem State.performSwap_engine : (s.performSwap t).engine = s.engine := rfl
@[simp] theorem State.performSwap_stored : (s.performSwap t).stored = s.stored := rfl
@[simp] theorem State.performSwap_pending : (s.performSwap t).pending = s.pending := rfl

end

/-! ## A record disposed of -/

section

variable (s : State) (i : SlotId) (r : UpRecord) (d : Disposal)

@[simp] theorem State.dispose_resetHeld : (s.dispose i r d).resetHeld = s.resetHeld := by
  cases d <;> simp only [State.dispose] <;> split <;> rfl
@[simp] theorem State.dispose_timebase : (s.dispose i r d).timebase = s.timebase := by
  cases d <;> simp only [State.dispose] <;> split <;> rfl
@[simp] theorem State.dispose_fieldMonitor : (s.dispose i r d).fieldMonitor = s.fieldMonitor := by
  cases d <;> simp only [State.dispose] <;> split <;> rfl
@[simp] theorem State.dispose_uplinkMonitor : (s.dispose i r d).uplinkMonitor = s.uplinkMonitor := by
  cases d <;> simp only [State.dispose] <;> split <;> rfl
@[simp] theorem State.dispose_fieldRx : (s.dispose i r d).fieldRx = s.fieldRx := by
  cases d <;> simp only [State.dispose] <;> split <;> rfl
@[simp] theorem State.dispose_uplinkRx : (s.dispose i r d).uplinkRx = s.uplinkRx := by
  cases d <;> simp only [State.dispose] <;> split <;> rfl
@[simp] theorem State.dispose_fieldTx : (s.dispose i r d).fieldTx = s.fieldTx := by
  cases d <;> simp only [State.dispose] <;> split <;> rfl
@[simp] theorem State.dispose_uplinkTx : (s.dispose i r d).uplinkTx = s.uplinkTx := by
  cases d <;> simp only [State.dispose] <;> split <;> rfl
@[simp] theorem State.dispose_classifyFifo : (s.dispose i r d).classifyFifo = s.classifyFifo.erase i := by
  cases d <;> simp only [State.dispose] <;> split <;> rfl
@[simp] theorem State.dispose_outbound : (s.dispose i r d).outbound = s.outbound := by
  cases d <;> simp only [State.dispose] <;> split <;> rfl
@[simp] theorem State.dispose_contexts : (s.dispose i r d).contexts = s.contexts := by
  cases d <;> simp only [State.dispose] <;> split <;> rfl
@[simp] theorem State.dispose_watchClaims : (s.dispose i r d).watchClaims = s.watchClaims := by
  cases d <;> simp only [State.dispose] <;> split <;> rfl
@[simp] theorem State.dispose_windowClaims : (s.dispose i r d).windowClaims = s.windowClaims := by
  cases d <;> simp only [State.dispose] <;> split <;> rfl
@[simp] theorem State.dispose_classifier : (s.dispose i r d).classifier = s.classifier := by
  cases d <;> simp only [State.dispose] <;> split <;> rfl
@[simp] theorem State.dispose_bankA : (s.dispose i r d).bankA = s.bankA := by
  cases d <;> simp only [State.dispose] <;> split <;> rfl
@[simp] theorem State.dispose_bankB : (s.dispose i r d).bankB = s.bankB := by
  cases d <;> simp only [State.dispose] <;> split <;> rfl
@[simp] theorem State.dispose_active : (s.dispose i r d).active = s.active := by
  cases d <;> simp only [State.dispose] <;> split <;> rfl
@[simp] theorem State.dispose_generation : (s.dispose i r d).generation = s.generation := by
  cases d <;> simp only [State.dispose] <;> split <;> rfl
@[simp] theorem State.dispose_swap : (s.dispose i r d).swap = s.swap := by
  cases d <;> simp only [State.dispose] <;> split <;> rfl
@[simp] theorem State.dispose_responses : (s.dispose i r d).responses = s.responses := by
  cases d <;> simp only [State.dispose] <;> split <;> rfl
@[simp] theorem State.dispose_notices : (s.dispose i r d).notices = s.notices := by
  cases d <;> simp only [State.dispose] <;> split <;> rfl
@[simp] theorem State.dispose_noticeMask : (s.dispose i r d).noticeMask = s.noticeMask := by
  cases d <;> simp only [State.dispose] <;> split <;> rfl
@[simp] theorem State.dispose_noticeNumber : (s.dispose i r d).noticeNumber = s.noticeNumber := by
  cases d <;> simp only [State.dispose] <;> split <;> rfl
@[simp] theorem State.dispose_requestFifo : (s.dispose i r d).requestFifo = s.requestFifo := by
  cases d <;> simp only [State.dispose] <;> split <;> rfl
@[simp] theorem State.dispose_engine : (s.dispose i r d).engine = s.engine := by
  cases d <;> simp only [State.dispose] <;> split <;> rfl
@[simp] theorem State.dispose_stored : (s.dispose i r d).stored = s.stored := by
  cases d <;> simp only [State.dispose] <;> split <;> rfl
@[simp] theorem State.dispose_pending : (s.dispose i r d).pending = s.pending := by
  cases d <;> simp only [State.dispose] <;> split <;> rfl

end

/-! ## The staging bank written -/

section

variable (s : State) (b : Bank)

@[simp] theorem State.setStaging_resetHeld : (s.setStaging b).resetHeld = s.resetHeld := by unfold State.setStaging; split <;> rfl
@[simp] theorem State.setStaging_timebase : (s.setStaging b).timebase = s.timebase := by unfold State.setStaging; split <;> rfl
@[simp] theorem State.setStaging_fieldMonitor : (s.setStaging b).fieldMonitor = s.fieldMonitor := by unfold State.setStaging; split <;> rfl
@[simp] theorem State.setStaging_uplinkMonitor : (s.setStaging b).uplinkMonitor = s.uplinkMonitor := by unfold State.setStaging; split <;> rfl
@[simp] theorem State.setStaging_fieldRx : (s.setStaging b).fieldRx = s.fieldRx := by unfold State.setStaging; split <;> rfl
@[simp] theorem State.setStaging_uplinkRx : (s.setStaging b).uplinkRx = s.uplinkRx := by unfold State.setStaging; split <;> rfl
@[simp] theorem State.setStaging_fieldTx : (s.setStaging b).fieldTx = s.fieldTx := by unfold State.setStaging; split <;> rfl
@[simp] theorem State.setStaging_uplinkTx : (s.setStaging b).uplinkTx = s.uplinkTx := by unfold State.setStaging; split <;> rfl
@[simp] theorem State.setStaging_slots : (s.setStaging b).slots = s.slots := by unfold State.setStaging; split <;> rfl
@[simp] theorem State.setStaging_classifyFifo : (s.setStaging b).classifyFifo = s.classifyFifo := by unfold State.setStaging; split <;> rfl
@[simp] theorem State.setStaging_outbound : (s.setStaging b).outbound = s.outbound := by unfold State.setStaging; split <;> rfl
@[simp] theorem State.setStaging_contexts : (s.setStaging b).contexts = s.contexts := by unfold State.setStaging; split <;> rfl
@[simp] theorem State.setStaging_watchClaims : (s.setStaging b).watchClaims = s.watchClaims := by unfold State.setStaging; split <;> rfl
@[simp] theorem State.setStaging_windowClaims : (s.setStaging b).windowClaims = s.windowClaims := by unfold State.setStaging; split <;> rfl
@[simp] theorem State.setStaging_classifier : (s.setStaging b).classifier = s.classifier := by unfold State.setStaging; split <;> rfl
@[simp] theorem State.setStaging_queues : (s.setStaging b).queues = s.queues := by unfold State.setStaging; split <;> rfl
@[simp] theorem State.setStaging_active : (s.setStaging b).active = s.active := by unfold State.setStaging; split <;> rfl
@[simp] theorem State.setStaging_generation : (s.setStaging b).generation = s.generation := by unfold State.setStaging; split <;> rfl
@[simp] theorem State.setStaging_swap : (s.setStaging b).swap = s.swap := by unfold State.setStaging; split <;> rfl
@[simp] theorem State.setStaging_responses : (s.setStaging b).responses = s.responses := by unfold State.setStaging; split <;> rfl
@[simp] theorem State.setStaging_notices : (s.setStaging b).notices = s.notices := by unfold State.setStaging; split <;> rfl
@[simp] theorem State.setStaging_noticeMask : (s.setStaging b).noticeMask = s.noticeMask := by unfold State.setStaging; split <;> rfl
@[simp] theorem State.setStaging_noticeNumber : (s.setStaging b).noticeNumber = s.noticeNumber := by unfold State.setStaging; split <;> rfl
@[simp] theorem State.setStaging_requestFifo : (s.setStaging b).requestFifo = s.requestFifo := by unfold State.setStaging; split <;> rfl
@[simp] theorem State.setStaging_engine : (s.setStaging b).engine = s.engine := by unfold State.setStaging; split <;> rfl
@[simp] theorem State.setStaging_stored : (s.setStaging b).stored = s.stored := by unfold State.setStaging; split <;> rfl
@[simp] theorem State.setStaging_counters : (s.setStaging b).counters = s.counters := by unfold State.setStaging; split <;> rfl
@[simp] theorem State.setStaging_pending : (s.setStaging b).pending = s.pending := by unfold State.setStaging; split <;> rfl

end

/-! ## Reading back what was written -/

@[simp] theorem State.context_setContext_self (s : State) (ch : Channel) (c : Context) :
    (s.setContext ch c).context ch = c := by
  simp [State.context]

theorem State.context_setContext_ne (s : State) {ch k : Channel} (c : Context) (h : k ≠ ch) :
    (s.setContext ch c).context k = s.context k := by
  have : (ch : Nat) ≠ (k : Nat) := fun e => h (Fin.ext e.symm)
  simp [State.context, Vector.getElem_set_ne, this]

theorem State.context_setContext (s : State) (ch k : Channel) (c : Context) :
    (s.setContext ch c).context k = if k = ch then c else s.context k := by
  split
  · next h => subst h; simp
  · next h => exact context_setContext_ne s c h

@[simp] theorem State.slot_setSlot_self (s : State) (i : SlotId) (x : Slot) : (s.setSlot i x).slot i = x := by
  simp [State.slot]

theorem State.slot_setSlot_ne (s : State) {i j : SlotId} (x : Slot) (h : j ≠ i) :
    (s.setSlot i x).slot j = s.slot j := by
  have : (i : Nat) ≠ (j : Nat) := fun e => h (Fin.ext e.symm)
  simp [State.slot, Vector.getElem_set_ne, this]

/-- The active bank stands when staging is written (R125). -/
@[simp] theorem State.activeBank_setStaging (s : State) (b : Bank) : (s.setStaging b).activeBank = s.activeBank := by
  cases h : s.active <;> simp [State.setStaging, State.activeBank, State.bank, h]

/-- The staging bank reads as it was written. -/
@[simp] theorem State.stagingBank_setStaging (s : State) (b : Bank) : (s.setStaging b).stagingBank = b := by
  cases h : s.active <;> simp [State.setStaging, State.stagingBank, State.bank, BankId.other, h]

end Sys2Proof.Machine
end

