-- ==== Sys2Proof/Laws/Ops.lean ====
section
/-! SUPPORT. For each operation the blocks share, what it can do: the take of a request, a raised notice, a slot claim, the
closing of a channel, a swap, the search and the chain step. Proofs about commands cite these and leave the operations
folded. -/

namespace Sys2Proof.Machine

/-! ## Events -/

/-- With RESET released an event has its effect. -/
@[simp] theorem live_of_released {s : State} (next : State) (h : s.resetHeld = false) : live s next = .next next := by
  simp [live, h]

/-- With RESET held an event changes nothing. -/
@[simp] theorem live_of_held {s : State} (next : State) (h : s.resetHeld = true) : live s next = .next s := by
  simp [live, h]

/-- An event answers the state itself or its effect. -/
theorem live_cases {s next t : State} (h : live s next = .next t) : t = s ∨ (s.resetHeld = false ∧ t = next) := by
  cases hr : s.resetHeld <;> simp [live, hr] at h
  · exact .inr ⟨rfl, h.symm⟩
  · exact .inl h.symm

/-! ## Reading a context or a slot of an updated state -/

theorem State.context_eq (s : State) (ch : Channel) : s.context ch = s.contexts[ch] := rfl

theorem State.slot_eq (s : State) (i : SlotId) : s.slot i = s.slots[i] := rfl

/-- A vector read by a `Fin` after a write by a `Fin`. -/
theorem Vector_getElem_set_fin {α : Type} {n : Nat} (v : Vector α n) (i j : Fin n) (x : α) :
    (v.set i x)[j] = if j = i then x else v[j] := by
  simp only [Fin.getElem_fin, Vector.getElem_set]
  by_cases h : j = i
  · simp [h]
  · have : (i : Nat) ≠ (j : Nat) := fun e => h (Fin.ext e.symm)
    simp [h, this]

/-! ## Taking a request (R154) -/

theorem State.engineReady_iff (s : State) :
    s.engineReady = true ↔ s.engine = .idle ∧ s.responses.length < 4 := by
  unfold State.engineReady
  rw [Bool.and_eq_true, beq_iff_eq, decide_eq_true_iff]
  rfl

/-- The row that takes a request that is no duplicate. -/
theorem State.rowFor_fresh {s : State} {r : Request} (h : ∀ p, s.stored = some p → p.number ≠ r.number) :
    s.rowFor r = rowOf r := by
  have : s.lastNumber ≠ some r.number := by
    intro e
    obtain ⟨p, hp, hn⟩ := Option.map_eq_some_iff.1 e
    exact h p hp hn
  simp [State.rowFor, this]

/-- The row that takes a duplicate. -/
theorem State.rowFor_duplicate {s : State} {r : Request} {p : Response} (h : s.stored = some p)
    (hn : p.number = r.number) : s.rowFor r = .duplicateRequest := by
  simp [State.rowFor, State.lastNumber, h, hn]

/-- The take, where its conditions hold. -/
theorem State.takeAs_taken {s : State} {r : Request} {rest : List Request} {row : Instr} (act : Request → State → State)
    (he : s.engine = .idle) (hr : s.responses.length < 4) (hf : s.requestFifo = r :: rest) (hrow : s.rowFor r = row) :
    s.takeAs row act = act r { s with requestFifo := rest } := by
  have := (s.engineReady_iff).2 ⟨he, hr⟩
  simp [State.takeAs, hf, this, hrow]

/-- What a take can do: nothing, or the take of the head of the Request FIFO under its conditions. -/
theorem State.takeAs_cases (s : State) (row : Instr) (act : Request → State → State) :
    s.takeAs row act = s ∨ ∃ r rest, s.requestFifo = r :: rest ∧ s.engine = .idle ∧ s.responses.length < 4
      ∧ s.rowFor r = row ∧ s.takeAs row act = act r { s with requestFifo := rest } := by
  unfold State.takeAs
  split
  · exact .inl rfl
  · next r rest hf =>
    split
    · next h =>
      obtain ⟨he, hr⟩ := s.engineReady_iff.1 h.1
      exact .inr ⟨r, rest, hf, he, hr, h.2, rfl⟩
    · exact .inl rfl

@[simp] theorem answerChecked_ok {α : Type} (a : α) (r : Request) (s : State) (act : α → State) :
    answerChecked (.ok a) r s act = act a := rfl

@[simp] theorem answerChecked_error {α : Type} (e : Status) (r : Request) (s : State) (act : α → State) :
    answerChecked (.error e) r s act = s.respond r e [] := rfl

/-- A validated request is refused with no results, or goes on. -/
theorem answerChecked_cases {α : Type} (v : Except Status α) (r : Request) (s : State) (act : α → State) :
    (∃ e, v = .error e ∧ answerChecked v r s act = s.respond r e [])
      ∨ ∃ a, v = .ok a ∧ answerChecked v r s act = act a := by
  cases v with
  | error e => exact .inl ⟨e, rfl, rfl⟩
  | ok a => exact .inr ⟨a, rfl, rfl⟩

theorem checked_ok_iff {α : Type} (len : Bool) (v : Option α) (a : α) :
    checked len v = .ok a ↔ len = true ∧ v = some a := by
  cases len <;> cases v <;> simp [checked]

@[simp] theorem checked_badLength {α : Type} (v : Option α) : checked false v = .error .badLength := rfl

@[simp] theorem checked_badRange {α : Type} : checked true (none : Option α) = .error .badRange := rfl

@[simp] theorem checked_some {α : Type} (a : α) : checked true (some a) = .ok a := rfl

/-! ## A raised notice (R147) -/

theorem State.raise_masked {s : State} {n : Notice} (h : s.noticeMask.enables n.kind = false) : s.raise n = s := by
  simp [State.raise, offerNotice, lostAfter, noticeFate, h]

theorem State.raise_gathered {s : State} {n : Notice} (h : s.noticeMask.enables n.kind = true)
    (hg : s.notices.any n.gathers = true) :
    s.raise n = { s with notices := s.notices.map fun p => if n.gathers p then p.bump else p } := by
  simp [State.raise, offerNotice, lostAfter, noticeFate, h, hg]

theorem State.raise_lost {s : State} {n : Notice} (h : s.noticeMask.enables n.kind = true)
    (hg : s.notices.any n.gathers = false) (hc : 15 ≤ ordinaryCount s.notices) :
    s.raise n = { s with
      notices := recordLoss s.notices
      counters := { s.counters with noticeLost := s.counters.noticeLost + 1#32 } } := by
  simp [State.raise, offerNotice, lostAfter, noticeFate, h, hg, Config.ordinaryNotices, hc, count]

theorem State.raise_entered {s : State} {n : Notice} (h : s.noticeMask.enables n.kind = true)
    (hg : s.notices.any n.gathers = false) (hc : ordinaryCount s.notices < 15) :
    s.raise n = { s with notices := s.notices ++ [n] } := by
  have : ¬ 15 ≤ ordinaryCount s.notices := by omega
  simp [State.raise, offerNotice, lostAfter, noticeFate, h, hg, Config.ordinaryNotices, this]

/-- The four ends of a raised notice, as they change the Notice Queue. -/
theorem offerNotice_cases (mask : NoticeMask) (queue : List Notice) (n : Notice) :
    offerNotice mask queue n = queue
      ∨ (queue.any n.gathers = true ∧ offerNotice mask queue n = queue.map fun p => if n.gathers p then p.bump else p)
      ∨ (15 ≤ ordinaryCount queue ∧ offerNotice mask queue n = recordLoss queue)
      ∨ (queue.any n.gathers = false ∧ ordinaryCount queue < 15 ∧ offerNotice mask queue n = queue ++ [n]) := by
  unfold offerNotice noticeFate
  split <;> rename_i h
  · exact .inl rfl
  · split at h
    · cases h
    · split at h
      · next hg => exact .inr (.inl ⟨hg, rfl⟩)
      · split at h <;> cases h
  · split at h
    · cases h
    · split at h
      · cases h
      · split at h
        · next hc => exact .inr (.inr (.inl ⟨hc, rfl⟩))
        · cases h
  · split at h
    · cases h
    · split at h
      · cases h
      · next hg =>
        split at h
        · cases h
        · next hc => exact .inr (.inr (.inr ⟨by simpa using hg, by simpa [Config.ordinaryNotices] using hc, rfl⟩))

/-! ## A slot claim (R21) -/

/-- The lowest-numbered FREE slot. -/
theorem lowestFree_eq_some {slots : Vector Slot Config.slots} {i : SlotId} (h : slots[i] = .free)
    (hlow : ∀ j : SlotId, j < i → slots[j] ≠ .free) : lowestFree slots = some i := by
  unfold lowestFree
  rw [List.find?_eq_some_iff_getElem]
  refine ⟨by rw [h]; rfl, i.val, by simp, by simp, ?_⟩
  intro j hj
  have hlt : (⟨j, by omega⟩ : SlotId) < i := hj
  have := hlow ⟨j, by omega⟩ hlt
  simp only [List.getElem_finRange]
  cases hs : slots[(⟨j, by omega⟩ : SlotId)] <;> simp_all [Slot.isFree]

/-- No slot is claimed when none is FREE. -/
theorem lowestFree_eq_none {slots : Vector Slot Config.slots} (h : ∀ i : SlotId, slots[i] ≠ .free) :
    lowestFree slots = none := by
  unfold lowestFree
  rw [List.find?_eq_none]
  intro i _
  have := h i
  cases hs : slots[i] <;> simp_all [Slot.isFree]

/-- A claimed slot was FREE. -/
theorem lowestFree_free {slots : Vector Slot Config.slots} {i : SlotId} (h : lowestFree slots = some i) :
    slots[i] = .free := by
  have := List.find?_some h
  cases hs : slots[i] <;> simp_all [Slot.isFree]

/-! ## Closing a channel (R40) -/

theorem Context.close_of_closed {c : Context} (h : c.state = .closed) : c.close = c := by simp [Context.close, h]

theorem Context.close_of_not_closed {c : Context} (h : c.state ≠ .closed) :
    c.close = { c with
      state := .closed, watchPhase := .off, gapCount := 0, chainProgress := 0, chainDeadline := none } := by
  simp [Context.close, h, Context.closingEffects, Context.watchOff, Context.clearRun]

/-- A closing leaves the channel CLOSED. -/
@[simp] theorem Context.close_state (c : Context) : c.close.state = .closed := by
  by_cases h : c.state = .closed
  · simp [Context.close, h]
  · simp [Context.close_of_not_closed h]

/-! ## The search (R58) -/

theorem searchRules_eq_some {b : Bank} {r : UpRecord} {i : RuleIndex} (h : b.rules[i].claims r = true)
    (hlow : ∀ j : RuleIndex, j < i → b.rules[j].claims r = false) : searchRules b r = some i := by
  unfold searchRules
  rw [List.find?_eq_some_iff_getElem]
  refine ⟨h, i.val, by simp, by simp, ?_⟩
  intro j hj
  simpa using hlow ⟨j, by omega⟩ hj

theorem searchRules_eq_none {b : Bank} {r : UpRecord} (h : ∀ i : RuleIndex, b.rules[i].claims r = false) :
    searchRules b r = none := by
  unfold searchRules
  rw [List.find?_eq_none]
  intro i _
  have := h i
  simpa using this

/-! ## Table writes and reads -/

/-- An item of a table after a write of consecutive items. -/
theorem getElem_writeAt {α : Type} {n : Nat} (v : Vector α n) (start : Nat) (xs : List α) (k : Nat) (hk : k < n) :
    (writeAt v start xs)[k] = if start ≤ k then (xs[k - start]?).getD v[k] else v[k] := by
  induction xs generalizing v start with
  | nil => simp [writeAt]
  | cons x xs ih =>
    rw [writeAt, ih]
    rcases Nat.lt_trichotomy k start with h | h | h
    · simp [Nat.not_le.2 h, Nat.not_le.2 (Nat.lt_succ_of_lt h), Nat.ne_of_gt h]
    · subst h
      simp
    · have e : k - start = (k - (start + 1)) + 1 := by omega
      simp [Nat.le_of_lt h, Nat.succ_le_of_lt h, Nat.ne_of_lt h, e]

end Sys2Proof.Machine
end

