-- ==== Sys2Proof/Laws/Frames.lean ====
section
/-! SUPPORT. The frame of every command: which items of State its event can change. Each lemma says that the next state is the
state with those items alone replaced, so that every other item stands. -/

namespace Sys2Proof.Machine

/-- Raised notices change the Notice Queue and the counters alone. -/
theorem State.raiseAll_frame (s : State) (ns : List Notice) :
    s.raiseAll ns = { s with notices := (s.raiseAll ns).notices, counters := (s.raiseAll ns).counters } := by
  induction ns generalizing s with
  | nil => rfl
  | cons n ns ih => rw [State.raiseAll_cons, ih]; rfl

theorem fieldReceive_frame (s : State) (m : LineMonitor) (last : Option Byte) (x : Byte) :
    fieldReceive m last x s = { s with
        fieldRx := (fieldReceive m last x s).fieldRx, slots := (fieldReceive m last x s).slots,
        classifyFifo := (fieldReceive m last x s).classifyFifo,
        counters := (fieldReceive m last x s).counters, notices := (fieldReceive m last x s).notices } := by
  unfold fieldReceive startFieldRecord fieldLength completeFieldRecord releaseFieldSlot storeFieldByte judgeFieldRecord admitFieldRecord
  repeat' split
  all_goals rfl

theorem uplinkReceive_frame (s : State) (m : LineMonitor) (last : Option Byte) (x : Byte) :
    uplinkReceive m last x s = { s with
        uplinkRx := (uplinkReceive m last x s).uplinkRx,
        outbound := (uplinkReceive m last x s).outbound,
        requestFifo := (uplinkReceive m last x s).requestFifo,
        counters := (uplinkReceive m last x s).counters } := by
  unfold uplinkReceive judgeClass uplinkHeaderEnd completeUplinkRecord dispatchDown dispatchRequest appendOutbound appendRequest
  repeat' split
  all_goals rfl

theorem fieldByte_frame (s : State) (x : Byte) :
    fieldByte x s = { s with
        fieldMonitor := (fieldByte x s).fieldMonitor, fieldRx := (fieldByte x s).fieldRx,
        slots := (fieldByte x s).slots, classifyFifo := (fieldByte x s).classifyFifo,
        counters := (fieldByte x s).counters, notices := (fieldByte x s).notices } := by
  unfold fieldByte
  rw [State.raiseAll_frame, fieldReceive_frame]

theorem uplinkByte_frame (s : State) (x : Byte) :
    uplinkByte x s = { s with
        uplinkMonitor := (uplinkByte x s).uplinkMonitor, uplinkRx := (uplinkByte x s).uplinkRx,
        outbound := (uplinkByte x s).outbound, requestFifo := (uplinkByte x s).requestFifo,
        counters := (uplinkByte x s).counters, notices := (uplinkByte x s).notices } := by
  unfold uplinkByte
  rw [State.raiseAll_frame, uplinkReceive_frame]

theorem loseFieldLine_frame (s : State) :
    loseLine .field s = { s with
        fieldMonitor := (loseLine .field s).fieldMonitor, fieldRx := (loseLine .field s).fieldRx,
        slots := (loseLine .field s).slots, counters := (loseLine .field s).counters,
        notices := (loseLine .field s).notices } := by
  unfold loseLine abortField releaseFieldSlot
  dsimp only
  repeat' split
  all_goals rfl

theorem loseUplinkLine_frame (s : State) :
    loseLine .uplink s = { s with
        uplinkMonitor := (loseLine .uplink s).uplinkMonitor, uplinkRx := (loseLine .uplink s).uplinkRx,
        counters := (loseLine .uplink s).counters, notices := (loseLine .uplink s).notices } := by
  unfold loseLine abortUplink
  dsimp only
  repeat' split
  all_goals rfl

theorem takeTickClaim_frame (s : State) (ch : Channel) :
    takeTickClaim ch s = { s with
        watchClaims := (takeTickClaim ch s).watchClaims, contexts := (takeTickClaim ch s).contexts,
        notices := (takeTickClaim ch s).notices, counters := (takeTickClaim ch s).counters } := by
  unfold takeTickClaim
  split
  · rw [State.raiseAll_frame]; rfl
  · rfl

theorem takeWindowClaim_frame (s : State) (ch : Channel) :
    takeWindowClaim ch s = { s with
        windowClaims := (takeWindowClaim ch s).windowClaims, contexts := (takeWindowClaim ch s).contexts } := by
  unfold takeWindowClaim
  repeat' split
  all_goals rfl

theorem takeForClassification_frame (s : State) :
    takeForClassification s = { s with
        slots := (takeForClassification s).slots, classifier := (takeForClassification s).classifier } := by
  unfold takeForClassification
  repeat' split
  all_goals rfl

theorem completeRecord_frame (s : State) (i : SlotId) (bank : BankId) (g : Byte) (r : UpRecord) :
    completeRecord i bank g r s = { s with
        classifier := (completeRecord i bank g r s).classifier,
        classifyFifo := (completeRecord i bank g r s).classifyFifo,
        slots := (completeRecord i bank g r s).slots, queues := (completeRecord i bank g r s).queues,
        contexts := (completeRecord i bank g r s).contexts,
        counters := (completeRecord i bank g r s).counters,
        notices := (completeRecord i bank g r s).notices,
        active := (completeRecord i bank g r s).active,
        generation := (completeRecord i bank g r s).generation,
        swap := (completeRecord i bank g r s).swap } := by
  unfold completeRecord State.swapAtCompletion
  dsimp only
  rw [State.raiseAll_frame]
  unfold State.dispose
  repeat' split
  all_goals rfl

theorem completeClassification_frame (s : State) :
    completeClassification s = { s with
        classifier := (completeClassification s).classifier,
        classifyFifo := (completeClassification s).classifyFifo,
        slots := (completeClassification s).slots, queues := (completeClassification s).queues,
        contexts := (completeClassification s).contexts,
        counters := (completeClassification s).counters, notices := (completeClassification s).notices,
        active := (completeClassification s).active,
        generation := (completeClassification s).generation, swap := (completeClassification s).swap } := by
  unfold completeClassification
  repeat' split
  · rfl
  · exact completeRecord_frame _ _ _ _ _
  · rfl

theorem startFieldSend_frame (s : State) :
    startFieldSend s = { s with
        outbound := (startFieldSend s).outbound, fieldTx := (startFieldSend s).fieldTx,
        counters := (startFieldSend s).counters, contexts := (startFieldSend s).contexts } := by
  unfold startFieldSend
  repeat' split
  all_goals rfl

theorem grant_frame (s : State) :
    grant s = { s with
        responses := (grant s).responses, notices := (grant s).notices,
        noticeNumber := (grant s).noticeNumber, queues := (grant s).queues, slots := (grant s).slots,
        uplinkTx := (grant s).uplinkTx } := by
  unfold grant grantBest grantSlot
  repeat' split
  all_goals rfl

theorem finishUplink_frame (s : State) :
    finishUplink s = { s with
        uplinkTx := (finishUplink s).uplinkTx, slots := (finishUplink s).slots,
        counters := (finishUplink s).counters } := by
  unfold finishUplink finishSlot
  repeat' split
  all_goals rfl

theorem modifyNext_frame (s : State) :
    modifyNext s = { s with
        contexts := (modifyNext s).contexts, notices := (modifyNext s).notices,
        counters := (modifyNext s).counters, engine := (modifyNext s).engine,
        responses := (modifyNext s).responses, stored := (modifyNext s).stored } := by
  unfold modifyNext
  split
  · dsimp only
    rw [State.raiseAll_frame]
    split <;> rfl
  · rfl

theorem ackNext_frame (s : State) :
    ackNext s = { s with
        contexts := (ackNext s).contexts, engine := (ackNext s).engine,
        responses := (ackNext s).responses, stored := (ackNext s).stored } := by
  unfold ackNext
  dsimp only
  repeat' split
  all_goals rfl

theorem completeCopy_frame (s : State) :
    completeCopy s = { s with
        bankA := (completeCopy s).bankA, bankB := (completeCopy s).bankB,
        engine := (completeCopy s).engine, responses := (completeCopy s).responses,
        stored := (completeCopy s).stored } := by
  unfold completeCopy State.setStaging
  repeat' split
  all_goals rfl

theorem completeClear_frame (s : State) :
    completeClear s = { s with
        bankA := (completeClear s).bankA, bankB := (completeClear s).bankB,
        engine := (completeClear s).engine, responses := (completeClear s).responses,
        stored := (completeClear s).stored } := by
  unfold completeClear State.setStaging
  repeat' split
  all_goals rfl

theorem answerDuplicate_frame (s : State) (r : Request) :
    answerDuplicate r s = { s with
        responses := (answerDuplicate r s).responses } := by
  rfl

theorem answerIdentify_frame (s : State) (r : Request) :
    answerIdentify r s = { s with
        responses := (answerIdentify r s).responses, stored := (answerIdentify r s).stored,
        engine := (answerIdentify r s).engine } := by
  unfold answerIdentify answerChecked
  split
  · rfl
  · rfl

theorem answerReadStatus_frame (s : State) (r : Request) :
    answerReadStatus r s = { s with
        responses := (answerReadStatus r s).responses, stored := (answerReadStatus r s).stored,
        engine := (answerReadStatus r s).engine } := by
  unfold answerReadStatus answerChecked
  split
  · rfl
  · rfl

theorem answerReadContext_frame (s : State) (r : Request) :
    answerReadContext r s = { s with
        responses := (answerReadContext r s).responses, stored := (answerReadContext r s).stored,
        engine := (answerReadContext r s).engine } := by
  unfold answerReadContext answerChecked
  split
  · rfl
  · rfl

theorem answerReadWatch_frame (s : State) (r : Request) :
    answerReadWatch r s = { s with
        contexts := (answerReadWatch r s).contexts, responses := (answerReadWatch r s).responses,
        stored := (answerReadWatch r s).stored, engine := (answerReadWatch r s).engine } := by
  unfold answerReadWatch answerChecked
  split
  · rfl
  · rfl

theorem beginModify_frame (s : State) (r : Request) :
    beginModify r s = { s with
        responses := (beginModify r s).responses, stored := (beginModify r s).stored,
        engine := (beginModify r s).engine } := by
  unfold beginModify answerChecked
  split
  · rfl
  · rfl

theorem beginAck_frame (s : State) (r : Request) :
    beginAck r s = { s with
        responses := (beginAck r s).responses, stored := (beginAck r s).stored,
        engine := (beginAck r s).engine } := by
  unfold beginAck answerChecked
  split
  · rfl
  · rfl

theorem answerReadRules_frame (s : State) (r : Request) :
    answerReadRules r s = { s with
        responses := (answerReadRules r s).responses, stored := (answerReadRules r s).stored,
        engine := (answerReadRules r s).engine } := by
  unfold answerReadRules answerChecked
  split
  · rfl
  · rfl

theorem answerReadChain_frame (s : State) (r : Request) :
    answerReadChain r s = { s with
        responses := (answerReadChain r s).responses, stored := (answerReadChain r s).stored,
        engine := (answerReadChain r s).engine } := by
  unfold answerReadChain answerChecked
  split
  · rfl
  · rfl

theorem answerReadMap_frame (s : State) (r : Request) :
    answerReadMap r s = { s with
        responses := (answerReadMap r s).responses, stored := (answerReadMap r s).stored,
        engine := (answerReadMap r s).engine } := by
  unfold answerReadMap answerChecked
  split
  · rfl
  · rfl

theorem answerReadDefault_frame (s : State) (r : Request) :
    answerReadDefault r s = { s with
        responses := (answerReadDefault r s).responses, stored := (answerReadDefault r s).stored,
        engine := (answerReadDefault r s).engine } := by
  unfold answerReadDefault answerChecked
  split
  · rfl
  · rfl

theorem answerArmNext_frame (s : State) (r : Request) :
    answerArmNext r s = { s with
        active := (answerArmNext r s).active, generation := (answerArmNext r s).generation,
        contexts := (answerArmNext r s).contexts, swap := (answerArmNext r s).swap,
        notices := (answerArmNext r s).notices, counters := (answerArmNext r s).counters,
        responses := (answerArmNext r s).responses, stored := (answerArmNext r s).stored,
        engine := (answerArmNext r s).engine } := by
  unfold answerArmNext answerChecked armNext
  split
  · rfl
  · dsimp only
    repeat' split
    all_goals rfl

theorem answerArmMarker_frame (s : State) (r : Request) :
    answerArmMarker r s = { s with
        swap := (answerArmMarker r s).swap, responses := (answerArmMarker r s).responses,
        stored := (answerArmMarker r s).stored, engine := (answerArmMarker r s).engine } := by
  unfold answerArmMarker answerChecked
  split
  · rfl
  · dsimp only
    repeat' split
    all_goals rfl

theorem answerCancel_frame (s : State) (r : Request) :
    answerCancel r s = { s with
        swap := (answerCancel r s).swap, responses := (answerCancel r s).responses,
        stored := (answerCancel r s).stored, engine := (answerCancel r s).engine } := by
  unfold answerCancel answerChecked
  split
  · rfl
  · dsimp only
    repeat' split
    all_goals rfl

theorem answerQueueLimits_frame (s : State) (r : Request) :
    answerQueueLimits r s = { s with
        queues := (answerQueueLimits r s).queues, responses := (answerQueueLimits r s).responses,
        stored := (answerQueueLimits r s).stored, engine := (answerQueueLimits r s).engine } := by
  unfold answerQueueLimits answerChecked
  split
  · rfl
  · rfl

theorem answerNoticeMask_frame (s : State) (r : Request) :
    answerNoticeMask r s = { s with
        noticeMask := (answerNoticeMask r s).noticeMask, responses := (answerNoticeMask r s).responses,
        stored := (answerNoticeMask r s).stored, engine := (answerNoticeMask r s).engine } := by
  unfold answerNoticeMask answerChecked
  split
  · rfl
  · rfl

theorem answerReadCounters_frame (s : State) (r : Request) :
    answerReadCounters r s = { s with
        contexts := (answerReadCounters r s).contexts, counters := (answerReadCounters r s).counters,
        responses := (answerReadCounters r s).responses, stored := (answerReadCounters r s).stored,
        engine := (answerReadCounters r s).engine } := by
  unfold answerReadCounters answerChecked
  split
  · rfl
  · dsimp only
    repeat' split
    all_goals rfl

theorem answerRestart_frame (s : State) (r : Request) :
    answerRestart r s = { s with
        slots := (answerRestart r s).slots, classifyFifo := (answerRestart r s).classifyFifo,
        outbound := (answerRestart r s).outbound, contexts := (answerRestart r s).contexts,
        classifier := (answerRestart r s).classifier, queues := (answerRestart r s).queues,
        swap := (answerRestart r s).swap, notices := (answerRestart r s).notices,
        counters := (answerRestart r s).counters, responses := (answerRestart r s).responses,
        stored := (answerRestart r s).stored, engine := (answerRestart r s).engine } := by
  unfold answerRestart answerChecked restartOwners
  split
  · rfl
  · rfl

theorem answerWriter_frame (s : State) {α : Type} (v : Except Status α) (write : α → Bank → Bank) (r : Request) :
    answerWriter v write r s = { s with
        bankA := (answerWriter v write r s).bankA, bankB := (answerWriter v write r s).bankB,
        responses := (answerWriter v write r s).responses, stored := (answerWriter v write r s).stored,
        engine := (answerWriter v write r s).engine } := by
  unfold answerWriter answerChecked State.setStaging
  split
  · rfl
  · dsimp only
    repeat' split
    all_goals rfl

theorem beginLong_frame (s : State) (busy : Engine) (r : Request) :
    beginLong busy r s = { s with
        responses := (beginLong busy r s).responses, stored := (beginLong busy r s).stored,
        engine := (beginLong busy r s).engine } := by
  unfold beginLong answerChecked
  split
  · rfl
  · dsimp only
    split <;> rfl

/-! ## By command -/

theorem exec_resetRelease_frame {s t : State} {o : Bool} (h : exec (.resetRelease o) s = .next t) :
    t = { s with
        resetHeld := t.resetHeld, contexts := t.contexts, notices := t.notices } := by
  simp only [exec, execResetRelease, Host.Outcome.next.injEq] at h
  subst h
  split <;> rfl

theorem exec_fieldByte_frame {s t : State} {x : Byte} (h : exec (.byteReceived .field x) s = .next t) :
    t = { s with
        fieldMonitor := t.fieldMonitor, fieldRx := t.fieldRx, slots := t.slots,
        classifyFifo := t.classifyFifo, counters := t.counters, notices := t.notices } := by
  rcases live_cases h with rfl | ⟨_, rfl⟩
  · rfl
  · exact fieldByte_frame _ _

theorem exec_uplinkByte_frame {s t : State} {x : Byte} (h : exec (.byteReceived .uplink x) s = .next t) :
    t = { s with
        uplinkMonitor := t.uplinkMonitor, uplinkRx := t.uplinkRx, outbound := t.outbound,
        requestFifo := t.requestFifo, counters := t.counters, notices := t.notices } := by
  rcases live_cases h with rfl | ⟨_, rfl⟩
  · rfl
  · exact uplinkByte_frame _ _

theorem exec_loseField_frame {s t : State} (h : exec (.lineDown .field) s = .next t) :
    t = { s with
        fieldMonitor := t.fieldMonitor, fieldRx := t.fieldRx, slots := t.slots, counters := t.counters,
        notices := t.notices } := by
  rcases live_cases h with rfl | ⟨_, rfl⟩
  · rfl
  · exact loseFieldLine_frame _

theorem exec_loseUplink_frame {s t : State} (h : exec (.lineDown .uplink) s = .next t) :
    t = { s with
        uplinkMonitor := t.uplinkMonitor, uplinkRx := t.uplinkRx, counters := t.counters,
        notices := t.notices } := by
  rcases live_cases h with rfl | ⟨_, rfl⟩
  · rfl
  · exact loseUplinkLine_frame _

theorem exec_millisecondTick_frame {s t : State} (h : exec .millisecondTick s = .next t) :
    t = { s with
        watchClaims := t.watchClaims, windowClaims := t.windowClaims } := by
  rcases live_cases h with rfl | ⟨_, rfl⟩
  · rfl
  · exact rfl

theorem exec_watchTick_frame {s t : State} {ch : Channel} (h : exec (.watchTick ch) s = .next t) :
    t = { s with
        watchClaims := t.watchClaims, contexts := t.contexts, notices := t.notices,
        counters := t.counters } := by
  rcases live_cases h with rfl | ⟨_, rfl⟩
  · rfl
  · exact takeTickClaim_frame _ _

theorem exec_windowExpiry_frame {s t : State} {ch : Channel} (h : exec (.windowExpiry ch) s = .next t) :
    t = { s with
        windowClaims := t.windowClaims, contexts := t.contexts } := by
  rcases live_cases h with rfl | ⟨_, rfl⟩
  · rfl
  · exact takeWindowClaim_frame _ _

theorem exec_classifyTake_frame {s t : State} (h : exec .classifyTake s = .next t) :
    t = { s with
        slots := t.slots, classifier := t.classifier } := by
  rcases live_cases h with rfl | ⟨_, rfl⟩
  · rfl
  · exact takeForClassification_frame _

theorem exec_classifyComplete_frame {s t : State} (h : exec .classifyComplete s = .next t) :
    t = { s with
        classifier := t.classifier, classifyFifo := t.classifyFifo, slots := t.slots,
        queues := t.queues, contexts := t.contexts, counters := t.counters, notices := t.notices,
        active := t.active, generation := t.generation, swap := t.swap } := by
  rcases live_cases h with rfl | ⟨_, rfl⟩
  · rfl
  · exact completeClassification_frame _

theorem exec_fieldTransmitStart_frame {s t : State} (h : exec .fieldTransmitStart s = .next t) :
    t = { s with
        outbound := t.outbound, fieldTx := t.fieldTx, counters := t.counters, contexts := t.contexts } := by
  rcases live_cases h with rfl | ⟨_, rfl⟩
  · rfl
  · exact startFieldSend_frame _

theorem exec_fieldTransmitEnd_frame {s t : State} (h : exec .fieldTransmitEnd s = .next t) :
    t = { s with
        fieldTx := t.fieldTx } := by
  rcases live_cases h with rfl | ⟨_, rfl⟩
  · rfl
  · exact rfl

theorem exec_uplinkGrant_frame {s t : State} (h : exec .uplinkGrant s = .next t) :
    t = { s with
        responses := t.responses, notices := t.notices, noticeNumber := t.noticeNumber,
        queues := t.queues, slots := t.slots, uplinkTx := t.uplinkTx } := by
  rcases live_cases h with rfl | ⟨_, rfl⟩
  · rfl
  · exact grant_frame _

theorem exec_uplinkTransmitComplete_frame {s t : State} (h : exec .uplinkTransmitComplete s = .next t) :
    t = { s with
        uplinkTx := t.uplinkTx, slots := t.slots, counters := t.counters } := by
  rcases live_cases h with rfl | ⟨_, rfl⟩
  · rfl
  · exact finishUplink_frame _

theorem exec_modifyContextChannel_frame {s t : State} (h : exec .modifyContextChannel s = .next t) :
    t = { s with
        contexts := t.contexts, notices := t.notices, counters := t.counters, engine := t.engine,
        responses := t.responses, stored := t.stored } := by
  rcases live_cases h with rfl | ⟨_, rfl⟩
  · rfl
  · exact modifyNext_frame _

theorem exec_ackWatchChannel_frame {s t : State} (h : exec .ackWatchChannel s = .next t) :
    t = { s with
        contexts := t.contexts, engine := t.engine, responses := t.responses, stored := t.stored } := by
  rcases live_cases h with rfl | ⟨_, rfl⟩
  · rfl
  · exact ackNext_frame _

theorem exec_copyBankComplete_frame {s t : State} (h : exec .copyBankComplete s = .next t) :
    t = { s with
        bankA := t.bankA, bankB := t.bankB, engine := t.engine, responses := t.responses,
        stored := t.stored } := by
  rcases live_cases h with rfl | ⟨_, rfl⟩
  · rfl
  · exact completeCopy_frame _

theorem exec_clearStagingComplete_frame {s t : State} (h : exec .clearStagingComplete s = .next t) :
    t = { s with
        bankA := t.bankA, bankB := t.bankB, engine := t.engine, responses := t.responses,
        stored := t.stored } := by
  rcases live_cases h with rfl | ⟨_, rfl⟩
  · rfl
  · exact completeClear_frame _

theorem exec_limitExpiry_frame {s t : State} {ch : Channel} (h : exec (.limitExpiry ch) s = .next t) :
    t = { s with
        watchClaims := t.watchClaims, contexts := t.contexts, notices := t.notices,
        counters := t.counters } := by
  rcases live_cases h with rfl | ⟨_, rfl⟩
  · rfl
  · split
    · exact takeTickClaim_frame _ _
    · rfl

theorem exec_silenceExpiry_frame {s t : State} {ch : Channel} (h : exec (.silenceExpiry ch) s = .next t) :
    t = { s with
        watchClaims := t.watchClaims, contexts := t.contexts, notices := t.notices,
        counters := t.counters } := by
  rcases live_cases h with rfl | ⟨_, rfl⟩
  · rfl
  · split
    · exact takeTickClaim_frame _ _
    · rfl

theorem exec_duplicateRequest_frame {s t : State} (h : exec .duplicateRequest s = .next t) :
    t = { s with
        requestFifo := t.requestFifo, responses := t.responses } := by
  rcases live_cases h with rfl | ⟨_, rfl⟩
  · rfl
  · rcases State.takeAs_cases s _ _ with e | ⟨r, rest, _, _, _, _, e⟩ <;> rw [e]
    rw [answerDuplicate_frame]

theorem exec_unknownCommandRequest_frame {s t : State} (h : exec .unknownCommandRequest s = .next t) :
    t = { s with
        requestFifo := t.requestFifo, responses := t.responses, stored := t.stored, engine := t.engine } := by
  rcases live_cases h with rfl | ⟨_, rfl⟩
  · rfl
  · rcases State.takeAs_cases s _ _ with e | ⟨r, rest, _, _, _, _, e⟩ <;> rw [e]
    rfl

theorem exec_identify_frame {s t : State} (h : exec .identify s = .next t) :
    t = { s with
        requestFifo := t.requestFifo, responses := t.responses, stored := t.stored, engine := t.engine } := by
  rcases live_cases h with rfl | ⟨_, rfl⟩
  · rfl
  · rcases State.takeAs_cases s _ _ with e | ⟨r, rest, _, _, _, _, e⟩ <;> rw [e]
    rw [answerIdentify_frame]

theorem exec_readStatus_frame {s t : State} (h : exec .readStatus s = .next t) :
    t = { s with
        requestFifo := t.requestFifo, responses := t.responses, stored := t.stored, engine := t.engine } := by
  rcases live_cases h with rfl | ⟨_, rfl⟩
  · rfl
  · rcases State.takeAs_cases s _ _ with e | ⟨r, rest, _, _, _, _, e⟩ <;> rw [e]
    rw [answerReadStatus_frame]

theorem exec_readContext_frame {s t : State} (h : exec .readContext s = .next t) :
    t = { s with
        requestFifo := t.requestFifo, responses := t.responses, stored := t.stored, engine := t.engine } := by
  rcases live_cases h with rfl | ⟨_, rfl⟩
  · rfl
  · rcases State.takeAs_cases s _ _ with e | ⟨r, rest, _, _, _, _, e⟩ <;> rw [e]
    rw [answerReadContext_frame]

theorem exec_modifyContext_frame {s t : State} (h : exec .modifyContext s = .next t) :
    t = { s with
        requestFifo := t.requestFifo, responses := t.responses, stored := t.stored, engine := t.engine } := by
  rcases live_cases h with rfl | ⟨_, rfl⟩
  · rfl
  · rcases State.takeAs_cases s _ _ with e | ⟨r, rest, _, _, _, _, e⟩ <;> rw [e]
    rw [beginModify_frame]

theorem exec_readWatch_frame {s t : State} (h : exec .readWatch s = .next t) :
    t = { s with
        requestFifo := t.requestFifo, contexts := t.contexts, responses := t.responses,
        stored := t.stored, engine := t.engine } := by
  rcases live_cases h with rfl | ⟨_, rfl⟩
  · rfl
  · rcases State.takeAs_cases s _ _ with e | ⟨r, rest, _, _, _, _, e⟩ <;> rw [e]
    rw [answerReadWatch_frame]

theorem exec_ackWatch_frame {s t : State} (h : exec .ackWatch s = .next t) :
    t = { s with
        requestFifo := t.requestFifo, responses := t.responses, stored := t.stored, engine := t.engine } := by
  rcases live_cases h with rfl | ⟨_, rfl⟩
  · rfl
  · rcases State.takeAs_cases s _ _ with e | ⟨r, rest, _, _, _, _, e⟩ <;> rw [e]
    rw [beginAck_frame]

theorem exec_writeRules_frame {s t : State} (h : exec .writeRules s = .next t) :
    t = { s with
        requestFifo := t.requestFifo, bankA := t.bankA, bankB := t.bankB, responses := t.responses,
        stored := t.stored, engine := t.engine } := by
  rcases live_cases h with rfl | ⟨_, rfl⟩
  · rfl
  · rcases State.takeAs_cases s _ _ with e | ⟨r, rest, _, _, _, _, e⟩ <;> rw [e]
    rw [answerWriter_frame]

theorem exec_readRules_frame {s t : State} (h : exec .readRules s = .next t) :
    t = { s with
        requestFifo := t.requestFifo, responses := t.responses, stored := t.stored, engine := t.engine } := by
  rcases live_cases h with rfl | ⟨_, rfl⟩
  · rfl
  · rcases State.takeAs_cases s _ _ with e | ⟨r, rest, _, _, _, _, e⟩ <;> rw [e]
    rw [answerReadRules_frame]

theorem exec_writeChain_frame {s t : State} (h : exec .writeChain s = .next t) :
    t = { s with
        requestFifo := t.requestFifo, bankA := t.bankA, bankB := t.bankB, responses := t.responses,
        stored := t.stored, engine := t.engine } := by
  rcases live_cases h with rfl | ⟨_, rfl⟩
  · rfl
  · rcases State.takeAs_cases s _ _ with e | ⟨r, rest, _, _, _, _, e⟩ <;> rw [e]
    rw [answerWriter_frame]

theorem exec_readChain_frame {s t : State} (h : exec .readChain s = .next t) :
    t = { s with
        requestFifo := t.requestFifo, responses := t.responses, stored := t.stored, engine := t.engine } := by
  rcases live_cases h with rfl | ⟨_, rfl⟩
  · rfl
  · rcases State.takeAs_cases s _ _ with e | ⟨r, rest, _, _, _, _, e⟩ <;> rw [e]
    rw [answerReadChain_frame]

theorem exec_writeMap_frame {s t : State} (h : exec .writeMap s = .next t) :
    t = { s with
        requestFifo := t.requestFifo, bankA := t.bankA, bankB := t.bankB, responses := t.responses,
        stored := t.stored, engine := t.engine } := by
  rcases live_cases h with rfl | ⟨_, rfl⟩
  · rfl
  · rcases State.takeAs_cases s _ _ with e | ⟨r, rest, _, _, _, _, e⟩ <;> rw [e]
    rw [answerWriter_frame]

theorem exec_readMap_frame {s t : State} (h : exec .readMap s = .next t) :
    t = { s with
        requestFifo := t.requestFifo, responses := t.responses, stored := t.stored, engine := t.engine } := by
  rcases live_cases h with rfl | ⟨_, rfl⟩
  · rfl
  · rcases State.takeAs_cases s _ _ with e | ⟨r, rest, _, _, _, _, e⟩ <;> rw [e]
    rw [answerReadMap_frame]

theorem exec_setDefaultVerdict_frame {s t : State} (h : exec .setDefaultVerdict s = .next t) :
    t = { s with
        requestFifo := t.requestFifo, bankA := t.bankA, bankB := t.bankB, responses := t.responses,
        stored := t.stored, engine := t.engine } := by
  rcases live_cases h with rfl | ⟨_, rfl⟩
  · rfl
  · rcases State.takeAs_cases s _ _ with e | ⟨r, rest, _, _, _, _, e⟩ <;> rw [e]
    rw [answerWriter_frame]

theorem exec_readDefaultVerdict_frame {s t : State} (h : exec .readDefaultVerdict s = .next t) :
    t = { s with
        requestFifo := t.requestFifo, responses := t.responses, stored := t.stored, engine := t.engine } := by
  rcases live_cases h with rfl | ⟨_, rfl⟩
  · rfl
  · rcases State.takeAs_cases s _ _ with e | ⟨r, rest, _, _, _, _, e⟩ <;> rw [e]
    rw [answerReadDefault_frame]

theorem exec_copyBank_frame {s t : State} (h : exec .copyBank s = .next t) :
    t = { s with
        requestFifo := t.requestFifo, responses := t.responses, stored := t.stored, engine := t.engine } := by
  rcases live_cases h with rfl | ⟨_, rfl⟩
  · rfl
  · rcases State.takeAs_cases s _ _ with e | ⟨r, rest, _, _, _, _, e⟩ <;> rw [e]
    rw [beginLong_frame]

theorem exec_clearStaging_frame {s t : State} (h : exec .clearStaging s = .next t) :
    t = { s with
        requestFifo := t.requestFifo, responses := t.responses, stored := t.stored, engine := t.engine } := by
  rcases live_cases h with rfl | ⟨_, rfl⟩
  · rfl
  · rcases State.takeAs_cases s _ _ with e | ⟨r, rest, _, _, _, _, e⟩ <;> rw [e]
    rw [beginLong_frame]

theorem exec_armSwapNext_frame {s t : State} (h : exec .armSwapNext s = .next t) :
    t = { s with
        requestFifo := t.requestFifo, active := t.active, generation := t.generation,
        contexts := t.contexts, swap := t.swap, notices := t.notices, counters := t.counters,
        responses := t.responses, stored := t.stored, engine := t.engine } := by
  rcases live_cases h with rfl | ⟨_, rfl⟩
  · rfl
  · rcases State.takeAs_cases s _ _ with e | ⟨r, rest, _, _, _, _, e⟩ <;> rw [e]
    rw [answerArmNext_frame]

theorem exec_armSwapMarker_frame {s t : State} (h : exec .armSwapMarker s = .next t) :
    t = { s with
        requestFifo := t.requestFifo, swap := t.swap, responses := t.responses, stored := t.stored,
        engine := t.engine } := by
  rcases live_cases h with rfl | ⟨_, rfl⟩
  · rfl
  · rcases State.takeAs_cases s _ _ with e | ⟨r, rest, _, _, _, _, e⟩ <;> rw [e]
    rw [answerArmMarker_frame]

theorem exec_cancelSwap_frame {s t : State} (h : exec .cancelSwap s = .next t) :
    t = { s with
        requestFifo := t.requestFifo, swap := t.swap, responses := t.responses, stored := t.stored,
        engine := t.engine } := by
  rcases live_cases h with rfl | ⟨_, rfl⟩
  · rfl
  · rcases State.takeAs_cases s _ _ with e | ⟨r, rest, _, _, _, _, e⟩ <;> rw [e]
    rw [answerCancel_frame]

theorem exec_setQueueLimits_frame {s t : State} (h : exec .setQueueLimits s = .next t) :
    t = { s with
        requestFifo := t.requestFifo, queues := t.queues, responses := t.responses, stored := t.stored,
        engine := t.engine } := by
  rcases live_cases h with rfl | ⟨_, rfl⟩
  · rfl
  · rcases State.takeAs_cases s _ _ with e | ⟨r, rest, _, _, _, _, e⟩ <;> rw [e]
    rw [answerQueueLimits_frame]

theorem exec_setNoticeMask_frame {s t : State} (h : exec .setNoticeMask s = .next t) :
    t = { s with
        requestFifo := t.requestFifo, noticeMask := t.noticeMask, responses := t.responses,
        stored := t.stored, engine := t.engine } := by
  rcases live_cases h with rfl | ⟨_, rfl⟩
  · rfl
  · rcases State.takeAs_cases s _ _ with e | ⟨r, rest, _, _, _, _, e⟩ <;> rw [e]
    rw [answerNoticeMask_frame]

theorem exec_readCounters_frame {s t : State} (h : exec .readCounters s = .next t) :
    t = { s with
        requestFifo := t.requestFifo, contexts := t.contexts, counters := t.counters,
        responses := t.responses, stored := t.stored, engine := t.engine } := by
  rcases live_cases h with rfl | ⟨_, rfl⟩
  · rfl
  · rcases State.takeAs_cases s _ _ with e | ⟨r, rest, _, _, _, _, e⟩ <;> rw [e]
    rw [answerReadCounters_frame]

theorem exec_readCountersClear_frame {s t : State} (h : exec .readCountersClear s = .next t) :
    t = { s with
        requestFifo := t.requestFifo, contexts := t.contexts, counters := t.counters,
        responses := t.responses, stored := t.stored, engine := t.engine } := by
  rcases live_cases h with rfl | ⟨_, rfl⟩
  · rfl
  · rcases State.takeAs_cases s _ _ with e | ⟨r, rest, _, _, _, _, e⟩ <;> rw [e]
    rw [answerReadCounters_frame]

theorem exec_restartTraffic_frame {s t : State} (h : exec .restartTraffic s = .next t) :
    t = { s with
        requestFifo := t.requestFifo, slots := t.slots, classifyFifo := t.classifyFifo,
        outbound := t.outbound, contexts := t.contexts, classifier := t.classifier, queues := t.queues,
        swap := t.swap, notices := t.notices, counters := t.counters, responses := t.responses,
        stored := t.stored, engine := t.engine } := by
  rcases live_cases h with rfl | ⟨_, rfl⟩
  · rfl
  · rcases State.takeAs_cases s _ _ with e | ⟨r, rest, _, _, _, _, e⟩ <;> rw [e]
    rw [answerRestart_frame]

end Sys2Proof.Machine
end

