-- ==== Sys2Proof/Laws/Events.lean ====
section
/-! SUPPORT. The events of single commands as equations, under the conditions in which each occurs: a byte on an UP line, a
completion, a tick claim, a request row; and what a chain step, a heartbeat and a completion leave alone. -/

namespace Sys2Proof.Machine

/-! ## Line loss -/

/-- The silence timer has expired on an UP line 1000 µs after its last byte. -/
theorem LineMonitor.expired_iff (m : LineMonitor) : m.expired = true ↔ ∃ n, m = .up n ∧ 1000 ≤ n := by
  cases m with
  | down run => simp [LineMonitor.expired]
  | up n =>
    refine ⟨fun h => ⟨n, rfl, of_decide_eq_true h⟩, fun ⟨k, hk, h⟩ => ?_⟩
    cases hk
    exact decide_eq_true h

/-- The silence timer has not expired on a DOWN line, nor before the 1000 µs have passed. -/
theorem LineMonitor.expired_eq_false {m : LineMonitor} (h : ∀ n, m = .up n → n < 1000) : m.expired = false := by
  refine Bool.eq_false_iff.2 fun he => ?_
  obtain ⟨n, hn, h1⟩ := m.expired_iff.1 he
  exact absurd (h n hn) (Nat.not_lt.2 h1)

/-! ## Invariants -/

/-- With no command waiting, nothing passes, or a line is lost as by LINE_DOWN, or one microsecond passes. -/
theorem idle_cases (s : State) :
    (s.resetHeld = true ∧ idle s = s) ∨ (∃ link, exec (.lineDown link) s = .next (idle s))
      ∨ (s.resetHeld = false ∧ lostLine s = none ∧ idle s = microsecond s) := by
  unfold idle
  cases hr : s.resetHeld
  · rcases hl : lostLine s with _ | link
    · exact .inr (.inr ⟨rfl, rfl, rfl⟩)
    · exact .inr (.inl ⟨link, live_of_released _ hr⟩)
  · exact .inl ⟨rfl, rfl⟩

/-- An invariant that does not read the queue of waiting commands is kept by every step when a microsecond and every command
keep it. -/
theorem KeptByStep.of_exec {inv : State → Prop} (hqueue : ∀ s l, inv s → inv { s with pending := l })
    (htime : ∀ s, inv s → inv (microsecond s)) (hexec : ∀ c s t, inv s → exec c s = .next t → inv t) : KeptByStep inv := by
  intro s t hi h
  unfold step at h
  split at h
  · cases h
    rcases idle_cases s with ⟨-, h⟩ | ⟨link, h⟩ | ⟨-, -, h⟩
    · rwa [h]
    · exact hexec _ _ _ hi h
    · exact h ▸ htime s hi
  · exact hexec _ _ _ (hqueue s _ hi) h

/-! ## A byte on an UP line -/

/-- A byte on an UP field line goes to the receiver alone. -/
theorem exec_fieldByte_up {s : State} {n : Nat} (h : s.resetHeld = false) (hm : s.fieldMonitor = .up n) (b : Byte) :
    exec (.byteReceived .field b) s = .next (fieldReceive (.up n) s.fieldRx.last b
      { s with fieldMonitor := .up 0, fieldRx := ⟨some b, s.fieldRx.phase⟩ }) := by
  refine (live_of_released _ h).trans ?_
  simp [receiveByte, fieldByte, hm, upNotices, LineMonitor.comesUp, LineMonitor.receive, LineMonitor.isUp]

/-- A byte on an UP uplink goes to the receiver alone. -/
theorem exec_uplinkByte_up {s : State} {n : Nat} (h : s.resetHeld = false) (hm : s.uplinkMonitor = .up n) (b : Byte) :
    exec (.byteReceived .uplink b) s = .next (uplinkReceive (.up n) s.uplinkRx.last b
      { s with uplinkMonitor := .up 0, uplinkRx := ⟨some b, s.uplinkRx.phase, s.uplinkRx.staging⟩ }) := by
  refine (live_of_released _ h).trans ?_
  simp [receiveByte, uplinkByte, hm, upNotices, LineMonitor.comesUp, LineMonitor.receive, LineMonitor.isUp]

/-! ## A completion -/

/-- The completion of the classification of the record in the Classifier's slot. -/
theorem exec_classifyComplete_busy {s : State} {i : SlotId} {b : BankId} {g : Byte} {r : UpRecord} {v : Bool}
    (h : s.resetHeld = false) (hc : s.classifier = .busy i b g) (hs : s.slot i = .waiting r v) :
    exec .classifyComplete s = .next (completeRecord i b g r s) := by
  refine (live_of_released _ h).trans ?_
  simp [completeClassification, hc, hs]

/-- A chain step writes Chain Progress and Chain Deadline alone. -/
theorem chainStep_context (b : Bank) (now : Word32) (r : UpRecord) (c : Context) :
    (chainStep b now r c).context = { c with
      chainProgress := (chainStep b now r c).context.chainProgress
      chainDeadline := (chainStep b now r c).context.chainDeadline } := by
  unfold chainStep
  split
  · rfl
  · split
    · rfl
    · cases stepOutcome _ b r c.chainProgress <;> rfl

/-- A heartbeat writes the watch fields alone, and not LATE. -/
theorem heartbeat_context (ch : Channel) (st : ChannelState) (c : Context) :
    (heartbeat ch st c).1 = { c with
      watchPhase := (heartbeat ch st c).1.watchPhase
      gapCount := (heartbeat ch st c).1.gapCount
      lastGap := (heartbeat ch st c).1.lastGap
      held := (heartbeat ch st c).1.held
      new := (heartbeat ch st c).1.new } := by
  unfold heartbeat Context.captureGap Context.restartInterval
  split <;> first | rfl | (dsimp only; split <;> rfl)

/-- The chain that a channel follows. -/
theorem Context.boundChain_eq_some {c : Context} {b : Bank} {n : ChainId} (h : c.chainBinding = some n)
    (hd : b.chains[n].steps ≠ []) : c.boundChain b = some (n, b.chains[n]) := by
  simpa [Context.boundChain, h] using hd

/-! ## A tick claim -/

/-- A tick claim that is outstanding is taken: it leaves the claims, and the context and the notices are those of the claim. -/
theorem takeTickClaim_of_mem {s : State} {ch : Channel} (h : ch ∈ s.watchClaims) :
    takeTickClaim ch s = ({ s with
      watchClaims := s.watchClaims.erase ch
      contexts := s.contexts.set ch (tickClaim ch (s.context ch)).1 } : State).raiseAll (tickClaim ch (s.context ch)).2 := by
  unfold takeTickClaim
  rw [if_pos h]
  rfl

/-- A tick claim that is not outstanding does not occur. -/
theorem takeTickClaim_of_not_mem {s : State} {ch : Channel} (h : ch ∉ s.watchClaims) : takeTickClaim ch s = s := by
  simp [takeTickClaim, h]

/-! ## A request row -/

/-- The event of the row that takes the head of the Request FIFO. -/
theorem live_takeAs {s : State} {r : Request} {rest : List Request} {row : Instr} (act : Request → State → State)
    (h : s.resetHeld = false) (he : s.engine = .idle) (hr : s.responses.length < 4) (hf : s.requestFifo = r :: rest)
    (hrow : s.rowFor r = row) : live s (s.takeAs row act) = .next (act r { s with requestFifo := rest }) := by
  rw [live_of_released _ h, State.takeAs_taken act he hr hf hrow]

/-- The row of a Command is never DUPLICATE_REQUEST. -/
theorem rowOf_ne_duplicateRequest (r : Request) : rowOf r ≠ .duplicateRequest := by
  unfold rowOf
  split <;> first | (intro h; cases h; done) | (split <;> intro h <;> cases h)

/-- An index below `n` is read as itself. -/
theorem indexOf_eq_some {n : Nat} {b : Byte} (h : b.toNat < n) : indexOf n b = some ⟨b.toNat, h⟩ := by
  simp [indexOf, h]

/-- An index at or above `n` is not read. -/
theorem indexOf_eq_none {n : Nat} {b : Byte} (h : n ≤ b.toNat) : indexOf n b = none := by
  simp [indexOf, Nat.not_lt.2 h]

/-- Every item that is read has what each single reading has. -/
theorem parseAll_forall {α β : Type} {f : α → Option β} {P : β → Prop} (hP : ∀ a b, f a = some b → P b) :
    ∀ (l : List α) (m : List β), parseAll f l = some m → ∀ b ∈ m, P b
  | [], m, h => by
    simp [parseAll] at h
    subst h
    simp
  | a :: as, m, h => by
    unfold parseAll at h
    split at h
    · next y ys h1 h2 =>
      cases h
      intro b hb
      rcases List.mem_cons.1 hb with rfl | hb
      · exact hP _ _ h1
      · exact parseAll_forall hP as ys h2 b hb
    · cases h

/-- Items that are read back one by one are read back together. -/
theorem parseAll_map {α β : Type} {f : α → Option β} {g : β → α} :
    ∀ l : List β, (∀ b ∈ l, f (g b) = some b) → parseAll f (l.map g) = some l
  | [], _ => rfl
  | b :: bs, h => by
    have ih := parseAll_map bs fun x hx => h x (List.mem_cons_of_mem b hx)
    simp [parseAll, h b List.mem_cons_self, ih]

/-- One item that cannot be read leaves the list unread. -/
theorem parseAll_eq_none {α β : Type} {f : α → Option β} :
    ∀ l : List α, (∃ a ∈ l, f a = none) → parseAll f l = none
  | [], h => by simp at h
  | a :: as, h => by
    obtain ⟨x, hx, hf⟩ := h
    rcases List.mem_cons.1 hx with rfl | hx
    · simp [parseAll, hf]
    · have ih := parseAll_eq_none (f := f) as ⟨x, hx, hf⟩
      simp [parseAll, ih]

/-- Items of one size, taken from the front of a byte list, are the items. -/
theorem chunks_flatten (size : Nat) :
    ∀ items : List (List Byte), (∀ x ∈ items, x.length = size) → chunks size items.length items.flatten = items
  | [], _ => rfl
  | x :: xs, h => by
    have hx := h x List.mem_cons_self
    have ih := chunks_flatten size xs fun y hy => h y (List.mem_cons_of_mem x hy)
    simp [chunks, ← hx] at ih ⊢
    exact ih

/-- The list length of whole items is accepted. -/
theorem listLengthOk_items {fixed size most n : Nat} (hs : 0 < size) (h1 : 1 ≤ n) (hm : n ≤ most) :
    listLengthOk fixed size most (fixed + size * n) = true := by
  have : size * n / size = n := Nat.mul_div_cancel_left n hs
  simp [listLengthOk, this, h1, hm]

/-- An assignment that is read is within its range. -/
theorem parseAssignment_wf {bs : List Byte} {a : Assignment} (h : parseAssignment bs = some a) : a.wf = true := by
  unfold parseAssignment at h
  split at h
  · next code v w =>
    split at h
    · simp only [Option.map_eq_some_iff] at h
      obtain ⟨x, hx, rfl⟩ := h
      unfold parseWatchLimit at hx
      split at hx
      · cases hx
        rfl
      · split at hx
        · cases hx
          simp [Assignment.wf, watchLimitWf]
          omega
        · cases hx
    · split at h
      · split at h
        · split at h
          · cases h
            simp [Assignment.wf]
            omega
          · cases h
        · cases h
      · repeat' (split at h)
        all_goals first
          | (cases h; done)
          | (simp only [Option.map_eq_some_iff] at h; obtain ⟨x, hx, rfl⟩ := h; rfl)
  · cases h

/-! ## The settling of a MODIFY CONTEXT (R49) -/

/-- The Chain Binding is assigned. -/
theorem any_isChainBinding (l : List Assignment) :
    l.any Assignment.isChainBinding = true ↔ ∃ v, .chainBinding v ∈ l := by
  rw [List.any_eq_true]
  constructor
  · rintro ⟨a, h, h2⟩
    cases a <;> simp_all [Assignment.isChainBinding]
    exact ⟨_, h⟩
  · rintro ⟨v, h⟩
    exact ⟨_, h, rfl⟩

/-- The Watch Limit is assigned. -/
theorem any_isWatchLimit (l : List Assignment) : l.any Assignment.isWatchLimit = true ↔ ∃ v, .watchLimit v ∈ l := by
  rw [List.any_eq_true]
  constructor
  · rintro ⟨a, h, h2⟩
    cases a <;> simp_all [Assignment.isWatchLimit]
    exact ⟨_, h⟩
  · rintro ⟨v, h⟩
    exact ⟨_, h, rfl⟩

/-- The Watch Limit lies below the Gap Count of a RUNNING channel. -/
theorem Context.belowGap_iff (c : Context) :
    c.belowGap = true ↔ c.watchPhase = .running ∧ ∃ limit, c.watchLimit = some limit ∧ limit < c.gapCount := by
  unfold Context.belowGap
  split
  · simp_all
  · next h =>
    constructor
    · simp
    · rintro ⟨h1, l, h2, _⟩
      exact absurd h2 (h _ h1)

end Sys2Proof.Machine
end

