-- ==== Sys2Proof/Tests/Slice0.lean ====
section
/-! SUPPORT. Tests: each check of WellFormed refuses an ill-formed term; the manual's worked examples and figures; and, for
every obligation with hypotheses, a concrete state and operands that meet them. -/

-- The kernel checks these tests one after another: side by side, each waiting thread costs a stack of its own.
set_option Elab.async false

namespace Sys2Proof.Tests

open Sys2Proof Sys2Proof.Machine

/-! ## Ill-formed terms are refused (WellFormed.lean) -/

/-- A Max Length of 249 (R54). -/
theorem test_pattern_refused : Pattern.wf ⟨Vector.replicate 8 ⟨0#8, 0#8⟩, 0, 249⟩ = false := by decide

/-- A Min Length of 249 in an entry (R128). -/
theorem test_rule_refused :
    RuleEntry.wf ⟨true, ⟨Vector.replicate 8 ⟨0#8, 0#8⟩, 249, 248⟩, Verdict.empty⟩ = false := by decide

/-- A chain of one step, of nine steps, with a Window of 60,001 ms, and with an Action Count of 0 and 16 (R78). -/
theorem test_chain_refused :
    ChainDef.wf { ChainDef.empty with steps := [.any] } = false
      ∧ ChainDef.wf { ChainDef.empty with steps := List.replicate 9 .any } = false
      ∧ ChainDef.wf { ChainDef.empty with window := 60001 } = false
      ∧ ChainDef.wf { ChainDef.empty with actionCount := 0 } = false
      ∧ ChainDef.wf { ChainDef.empty with actionCount := 16 } = false := by decide

/-- A Watch Limit of 0 ms as a value and of 60,000 ms (the table of 3.1). -/
theorem test_watch_limit_refused : watchLimitWf (some 0) = false ∧ watchLimitWf (some 60000) = false := by decide

/-- An Override Count of 16 (R45). -/
theorem test_assignment_refused :
    Assignment.wf (.override .identity 16) = false ∧ Assignment.wf (.watchLimit (some 60000)) = false := by decide

/-- A body of 249 bytes (R33). -/
theorem test_down_record_refused : DownRecord.wf ⟨0, 0#8, List.replicate 249 0#8⟩ = false := by decide +kernel

/-- A Length of 249 (R153). -/
theorem test_request_refused : Request.wf ⟨0#16, 0#8, List.replicate 249 0#8⟩ = false := by decide +kernel

/-- A refusal with results, and 249 bytes of results (R158). -/
theorem test_response_refused :
    Response.wf ⟨0#16, 0#8, .badRange, [0#8]⟩ = false
      ∧ Response.wf ⟨0#16, 0#8, .ok, List.replicate 249 0#8⟩ = false := by decide +kernel

/-! ## States for the tests -/

/-- The part released with START_OPEN high, both lines UP and no notice pending. -/
def base : State :=
  { State.reset with
    resetHeld := false
    fieldMonitor := .up 0
    uplinkMonitor := .up 0
    contexts := Vector.replicate 128 (Context.powerOn .opened) }

/-- The next state of a command. -/
def after (c : Instr) (s : State) : State :=
  match exec c s with
  | .next t => t
  | _ => s

/-- The state after bytes received on a link. -/
def feed (link : Link) (bytes : List Byte) (s : State) : State := bytes.foldl (fun t b => after (.byteReceived link b) t) s

/-- A request with Request Number 1. -/
def req (command : Byte) (params : List Byte) : Request := ⟨1#16, command, params⟩

/-- A state with one request waiting and the engine ready. -/
def ask (s : State) (r : Request) : State := { s with requestFifo := [r], engine := .idle, responses := [], stored := none }

/-- The response that a command's event appends. -/
def answer (c : Instr) (s : State) : Option Response := (after c s).responses.getLast?

/-- A state whose Classifier is BUSY with slot 0, under Bank A and Generation 0. -/
def judging (s : State) (r : UpRecord) : State :=
  { s with slots := s.slots.set 0 (.waiting r true), classifyFifo := [0], classifier := .busy 0 .a 0#8 }

/-- A record with a stamp of 0 and no body. -/
def short (ch : Channel) (kind : Byte) : UpRecord := ⟨0#32, ch, kind, []⟩

/-- The base state with one channel's context replaced. -/
def withContext (ch : Channel) (c : Context) : State := base.setContext ch c

/-! ## The manual's figures -/

/-- The Check of 123456789 is 29B1h (R2). -/
theorem test_check :
    checkOf [0x31#8, 0x32#8, 0x33#8, 0x34#8, 0x35#8, 0x36#8, 0x37#8, 0x38#8, 0x39#8] = 0x29B1#16 := by decide +kernel

/-- K1 under 40h/F0h matches 40h to 4Fh; K2 under 80h/80h fails for a record of Length 0 (R53). -/
theorem test_pattern_example :
    KeyPair.matches ⟨0x40#8, 0xF0#8⟩ (keyByte (short 3 0x4F#8) 1) = true
      ∧ KeyPair.matches ⟨0x40#8, 0xF0#8⟩ (keyByte (short 3 0x50#8) 1) = false
      ∧ KeyPair.matches ⟨0x80#8, 0x80#8⟩ (keyByte (short 3 0x4F#8) 2) = false
      ∧ KeyPair.matches ⟨0x80#8, 0x80#8⟩ (keyByte ⟨0#32, 3, 0#8, [0x81#8]⟩ 2) = true := by decide +kernel

/-- After release of reset with START_OPEN high the uplink is DOWN and ALERT is asserted (R36, R151). -/
theorem test_release :
    (after (.resetRelease true) State.reset).alert = true
      ∧ ((after (.resetRelease true) State.reset).context 127).state = .opened
      ∧ ((after (.resetRelease false) State.reset).context 127).state = .closed := by decide +kernel

/-- 32 fills bring the field line UP with LINE_CHANGE behind RESTARTED; 31 do not (R6). -/
theorem test_line_up :
    (feed .field (List.replicate 31 0xF0#8) (after (.resetRelease true) State.reset)).fieldMonitor = .down 31
      ∧ (feed .field (List.replicate 32 0xF0#8) (after (.resetRelease true) State.reset)).fieldMonitor = .up 0
      ∧ (feed .field (List.replicate 32 0xF0#8) (after (.resetRelease true) State.reset)).notices.map Notice.kind
        = [.restarted, .lineChange] := by decide +kernel

/-- In the microsecond of the expiry a byte keeps the line UP, and without one the line is lost, with LINE_CHANGE and no time
passing; a LINE_DOWN before the 1000 µs have passed does nothing (R7). -/
theorem test_line_loss :
    let s : State := { base with fieldMonitor := .up 1000 }
    (feed .field [0x20#8] s).fieldMonitor = .up 0
      ∧ (idle s).fieldMonitor = .down 0 ∧ (idle s).notices = [⟨.lineChange, 0x00#8, 0#32⟩]
      ∧ (idle s).timebase = s.timebase
      ∧ (after (.lineDown .field) { s with fieldMonitor := .up 999 }).fieldMonitor = .up 999 := by decide +kernel

/-- A good field record of Channel 5, Kind 20h and Length 4: its claim takes slot 0 (R31), and it becomes WAITING at the tail
of the Classify FIFO (R9, R23). -/
theorem test_field_record :
    let bytes := [0x05#8, 0x20#8, 0x04#8, 0x01#8, 0x02#8, 0x03#8, 0x04#8]
    let t := feed .field ([0xF0#8, 0xF1#8] ++ bytes ++ bytes16 (checkOf bytes)) base
    t.slot 0 = .waiting ⟨0#32, 5, 0x20#8, [0x01#8, 0x02#8, 0x03#8, 0x04#8]⟩ false
      ∧ t.classifyFifo = [0] ∧ t.counters.fieldRxGood = 1#32 ∧ t.fieldRx.phase = .hunt := by decide +kernel

/-- A field record of Channel 128 with a good Check counts FORMAT_ERR, and one with a bad Check CHECK_ERR (R9). -/
theorem test_field_errors :
    let bytes := [0x80#8, 0x20#8, 0x00#8]
    let good := feed .field ([0xF0#8, 0xF1#8] ++ bytes ++ bytes16 (checkOf bytes)) base
    let bad := feed .field ([0xF0#8, 0xF1#8] ++ bytes ++ [0x00#8, 0x00#8]) base
    good.counters.fieldFormatErr = 1#32 ∧ good.slot 0 = .free
      ∧ bad.counters.fieldCheckErr = 1#32 ∧ bad.counters.fieldFormatErr = 0#32 := by decide +kernel

/-- A REQUEST of IDENTIFY with Request Number 0102h joins the Request FIFO (R12). -/
theorem test_request_record :
    let bytes := [0x12#8, 0x01#8, 0x02#8, 0x01#8, 0x00#8]
    (feed .uplink ([0xF0#8, 0xF1#8] ++ bytes ++ bytes16 (checkOf bytes)) base).requestFifo = [⟨0x0102#16, 0x01#8, []⟩] := by
  decide +kernel

/-- With the empty tables a record of an OPEN channel goes unchanged to Queue 3 with Tag 0 and Rule Ref FEh (R57). -/
theorem test_default_verdict :
    let t := after .classifyComplete (judging base (short 9 0x20#8))
    t.slot 0 = .queued (short 9 0x20#8) 3 ⟨0x20#8, 0, 0#8, .defaultVerdict⟩ ∧ t.queues[(3 : QueueId)].slots = [0] := by
  decide +kernel

/-- A record of a QUARANTINED channel reaches Queue 3 with Tag 15 and Rule Ref FFh (R63), and one of a CLOSED channel is
dropped (R62). -/
theorem test_other_states :
    (after .classifyComplete (judging (withContext 9 (Context.powerOn .quarantined)) (short 9 0x20#8))).slot 0
        = .queued (short 9 0x20#8) 3 ⟨0x20#8, 15, 0#8, .quarantinePath⟩
      ∧ (after .classifyComplete (judging (withContext 9 (Context.powerOn .closed)) (short 9 0x20#8))).slot 0 = .free := by
  decide +kernel

/-- IDENTIFY answers 716, revision 43h and the capacities 128, 192, 96, 16 and 8 (R159, R173). -/
theorem test_identify :
    (answer .identify (ask base (req 0x01#8 []))).map Response.results
      = some [0x02#8, 0xCC#8, 0x43#8, 0x80#8, 0xC0#8, 0x60#8, 0x10#8, 0x08#8] := by decide +kernel

/-- The six refusals of 10.4, by Status code. -/
theorem test_statuses :
    (answer .unknownCommandRequest (ask base (req 0x07#8 []))).map Response.status = some .unknownCommand
      ∧ (answer .identify (ask base (req 0x01#8 [0x00#8]))).map Response.status = some .badLength
      ∧ (answer .readContext (ask base (req 0x03#8 [0x80#8]))).map Response.status = some .badRange
      ∧ (answer .clearStaging (ask { base with swap := .armedNext } (req 0x19#8 []))).map Response.status
        = some .stagingFrozen
      ∧ (answer .armSwapNext (ask { base with swap := .armedNext } (req 0x1A#8 [0x01#8]))).map Response.status
        = some .swapArmed
      ∧ (answer .cancelSwap (ask base (req 0x1B#8 []))).map Response.status = some .notArmed := by decide +kernel

/-- A Watch Limit of 1,000 on an OPEN channel starts its watch in IDLE (R49). -/
theorem test_modify_context :
    let t := after .modifyContextChannel (after .modifyContext (ask base (req 0x04#8 [0x0C#8, 0x0C#8, 0x03#8, 0x03#8, 0xE8#8])))
    (t.context 12).watchLimit = some 1000 ∧ (t.context 12).watchPhase = .idle
      ∧ t.responses.map Response.status = [.ok] ∧ t.engine = .idle := by decide +kernel

/-- ARM SWAP NEXT with the Classifier IDLE performs the swap: Outcome PERFORMED, Generation 1, Bank B (R133, 11.4). -/
theorem test_swap :
    let t := after .armSwapNext (ask base (req 0x1A#8 [0x01#8]))
    t.responses.map Response.results = [[0x01#8, 0x01#8, 0x01#8]] ∧ t.active = .b ∧ t.generation = 1#8
      ∧ t.notices = [⟨.swapDone, 0xFF#8, 0x010101FF#32⟩] := by decide +kernel

/-- A Watch Limit of 59,999: the tick to 60,000 raises LATE and then SILENT (R113). -/
theorem test_late_then_silent :
    let c := { Context.powerOn .opened with watchLimit := some 59999, watchPhase := .running, gapCount := 59999 }
    let t := after (.watchTick 7) { withContext 7 c with watchClaims := [7] }
    t.notices.map Notice.kind = [.late, .silent] ∧ (t.context 7).watchPhase = .silent ∧ (t.context 7).late = true := by
  decide +kernel

/-- A WRITE RULES entry is read back by READ RULES of staging (R128). -/
theorem test_write_read :
    let e : RuleEntry := ⟨true, ⟨Vector.replicate 8 ⟨0x40#8, 0xF0#8⟩, 1, 248⟩, ⟨.drop, 2, .map 7, 15, true⟩⟩
    let t := after .writeRules (ask base (req 0x10#8 (0x5F#8 :: e.bytes)))
    (answer .readRules (ask t (req 0x11#8 [0x01#8, 0x5F#8, 0x01#8]))).map Response.results = some e.bytes
      ∧ (answer .readRules (ask t (req 0x11#8 [0x00#8, 0x5F#8, 0x01#8]))).map Response.results
        = some RuleEntry.empty.bytes := by decide +kernel

/-! ## Witnesses: states and operands that meet the hypotheses of each obligation -/

/-- A request waits for the engine. -/
theorem ask_takes (s : State) (r : Request) (h : s.resetHeld = false) : (ask s r).Takes r [] :=
  ⟨h, rfl, Nat.zero_lt_succ 3, rfl⟩

/-- The request that waits is executed. -/
theorem ask_executes (s : State) (command : Byte) (params : List Byte) (h : s.resetHeld = false) :
    (ask s (req command params)).Executes (req command params) [] command :=
  ⟨ask_takes s _ h, (fun _ e => nomatch e), rfl⟩

/-- The Classifier is BUSY with slot 0. -/
theorem judging_classifies (s : State) (r : UpRecord) (h : s.resetHeld = false) :
    (judging s r).Classifies 0 [] .a 0#8 r :=
  ⟨h, rfl, rfl, by simp [judging, State.slot]⟩

/-- Every slot but slot 0 is FREE in the base state with slot 0 written. -/
theorem slot_of_base (x : Slot) (i : SlotId) : ({ base with slots := base.slots.set 0 x } : State).slot i
    = if i = 0 then x else .free := by
  have h := Vector_getElem_set_fin base.slots 0 i x
  refine h.trans ?_
  simp [base, State.reset]

/-- AnEmptyQueuePassesAMicrosecond: RESET held; a line to lose at 1000 µs on either link; and no line to lose, with every
timer at its last microsecond and with every timer short of it. -/
theorem witness_empty_queue :
    State.reset.pending = [] ∧ State.reset.resetHeld = true
      ∧ (∃ s : State, s.pending = [] ∧ s.resetHeld = false ∧ s.fieldMonitor = .up 1000)
      ∧ (∃ s : State, s.pending = [] ∧ s.resetHeld = false ∧ s.fieldMonitor = .up 999 ∧ s.uplinkMonitor = .up 1000)
      ∧ (∃ s : State, s.pending = [] ∧ s.resetHeld = false ∧ s.timebase.divider = 999 ∧ s.fieldMonitor = .up 999
        ∧ s.uplinkMonitor = .down 31 ∧ s.fieldTx = .sending [0xF1#8] 1 ∧ s.uplinkTx = .sending .notice [0xF1#8] 1
        ∧ s.engine = .copying (req 0x18#8 []) 299)
      ∧ (∃ s : State, s.pending = [] ∧ s.resetHeld = false ∧ s.timebase.divider = 998 ∧ s.fieldMonitor = .down 31
        ∧ s.uplinkMonitor = .up 999 ∧ s.fieldTx = .idle ∧ s.uplinkTx = .idle
        ∧ s.engine = .clearing (req 0x19#8 []) 298)
      ∧ (base.pending = [] ∧ base.resetHeld = false ∧ base.engine = .idle) :=
  ⟨rfl, rfl, ⟨{ base with fieldMonitor := .up 1000 }, rfl, rfl, rfl⟩,
    ⟨{ base with fieldMonitor := .up 999, uplinkMonitor := .up 1000 }, rfl, rfl, rfl, rfl⟩,
    ⟨{ base with
        timebase := ⟨0#32, 999⟩, fieldMonitor := .up 999, uplinkMonitor := .down 31, fieldTx := .sending [0xF1#8] 1
        uplinkTx := .sending .notice [0xF1#8] 1, engine := .copying (req 0x18#8 []) 299 },
      rfl, rfl, rfl, rfl, rfl, rfl, rfl, rfl⟩,
    ⟨{ base with
        timebase := ⟨0#32, 998⟩, fieldMonitor := .down 31, uplinkMonitor := .up 999
        engine := .clearing (req 0x19#8 []) 298 },
      rfl, rfl, rfl, rfl, rfl, rfl, rfl, rfl⟩,
    rfl, rfl, rfl⟩

/-- ReleaseOpensChannelsAndHeldResetStops: RESET is held after reset, a command that is neither reset event, and a part that is
released. -/
theorem witness_held :
    State.reset.resetHeld = true ∧ base.resetHeld = false ∧ Instr.millisecondTick ≠ .powerOnReset ∧ ∀ b, Instr.millisecondTick ≠ .resetRelease b :=
  ⟨rfl, rfl, by decide, by decide⟩

/-- FillsBringALineUp: both lines DOWN with a Fill Run of 31, both receivers in HUNT. -/
theorem witness_fills :
    ∃ s : State, s.resetHeld = false ∧ s.fieldMonitor = .down 31 ∧ s.fieldRx.phase = .hunt
      ∧ s.uplinkMonitor = .down 31 ∧ s.uplinkRx.phase = .hunt :=
  ⟨{ base with fieldMonitor := .down 31, uplinkMonitor := .down 31 }, rfl, rfl, rfl, rfl, rfl⟩

/-- HuntTakesAStartCodeAfterAFill: both lines UP in HUNT, an F1h with and without a fill before it. -/
theorem witness_hunt :
    ∃ s : State, s.resetHeld = false ∧ s.fieldMonitor = .up 0 ∧ s.fieldRx.phase = .hunt ∧ s.fieldRx.last ≠ some 0xF0#8
      ∧ s.uplinkMonitor = .up 0 ∧ s.uplinkRx.phase = .hunt ∧ s.uplinkRx.last = some 0xF0#8 :=
  ⟨{ base with uplinkRx := ⟨some 0xF0#8, .hunt, []⟩ }, rfl, rfl, rfl, by decide, rfl, rfl, rfl⟩

/-- StartCodeClaimsTheLowestFreeSlot: slot 0 taken, so that slot 1 is the lowest FREE slot; and no slot FREE. -/
theorem witness_start_code :
    (∃ s : State, s.resetHeld = false ∧ s.fieldMonitor = .up 0 ∧ s.fieldRx = ⟨some 0xF0#8, .hunt⟩
      ∧ s.slot 1 = .free ∧ ∀ j, j < 1 → s.slot j ≠ .free)
    ∧ ∃ s : State, s.resetHeld = false ∧ s.fieldMonitor = .up 0 ∧ s.fieldRx = ⟨some 0xF0#8, .hunt⟩
      ∧ ∀ i, s.slot i ≠ .free :=
  ⟨⟨{ base with fieldRx := ⟨some 0xF0#8, .hunt⟩, slots := base.slots.set 0 (.waiting (short 0 0#8) false) },
    rfl, rfl, rfl, by decide +kernel, by decide +kernel⟩,
    ⟨{ base with fieldRx := ⟨some 0xF0#8, .hunt⟩, slots := Vector.replicate 192 (.waiting (short 0 0#8) false) },
      rfl, rfl, rfl, by decide +kernel⟩⟩

/-- FieldRecordJudgedAtItsEnd: a claimed slot and a skipped record, with bodies of 0 and 248 bytes; Channels 127 and 128 with
good Checks. -/
theorem witness_field_record :
    (∃ s : State, s.resetHeld = false ∧ s.fieldMonitor = .up 0 ∧ s.fieldRx.phase = .header (some 0) 0
      ∧ s.slot 0 = .receiving ⟨7#32, [], []⟩)
    ∧ (∃ s : State, s.resetHeld = false ∧ s.fieldMonitor = .up 0 ∧ s.fieldRx.phase = .header none 0)
    ∧ (List.replicate 248 0#8).length ≤ 248 ∧ ([] : List Byte).length ≤ 248
    ∧ (∃ hi lo : Byte, checkOf [127#8, 0#8, 0#8] = hi ++ lo) ∧ (∃ hi lo : Byte, checkOf [128#8, 0#8, 0#8] = hi ++ lo) :=
  ⟨⟨{ base with
      fieldRx := ⟨some 0xF1#8, .header (some 0) 0⟩, slots := base.slots.set 0 (.receiving ⟨7#32, [], []⟩) },
    rfl, rfl, rfl, by decide +kernel⟩,
    ⟨{ base with fieldRx := ⟨some 0xF1#8, .header none 0⟩ }, rfl, rfl, rfl⟩, by decide +kernel, by decide +kernel,
    ⟨(checkOf [127#8, 0#8, 0#8]).extractLsb' 8 8, (checkOf [127#8, 0#8, 0#8]).extractLsb' 0 8, by decide +kernel⟩,
    ⟨(checkOf [128#8, 0#8, 0#8]).extractLsb' 8 8, (checkOf [128#8, 0#8, 0#8]).extractLsb' 0 8, by decide +kernel⟩⟩

/-- LengthAbove248IsAFormatError: a Length of 249 at the end of each header. -/
theorem witness_length :
    248 < (249#8).toNat
      ∧ (∃ s : State, s.resetHeld = false ∧ s.fieldMonitor = .up 0 ∧ s.fieldRx.phase = .header (some 0) 2
        ∧ s.uplinkMonitor = .up 0 ∧ s.uplinkRx.phase = .header .dataUp 10)
      ∧ (∃ s : State, s.resetHeld = false ∧ s.fieldMonitor = .up 0 ∧ s.fieldRx.phase = .header none 2
        ∧ s.uplinkMonitor = .up 0 ∧ s.uplinkRx.phase = .header .request 4) :=
  ⟨by decide, ⟨{ base with fieldRx := ⟨none, .header (some 0) 2⟩, uplinkRx := ⟨none, .header .dataUp 10, []⟩ },
    rfl, rfl, rfl, rfl, rfl⟩,
    ⟨{ base with fieldRx := ⟨none, .header none 2⟩, uplinkRx := ⟨none, .header .request 4, []⟩ }, rfl, rfl, rfl, rfl, rfl⟩⟩

/-- UplinkRecordsJudgedAtTheirEnd and BadClassesAreCounted: HEADER before the Class byte, with room in the FIFOs and at
their capacities. -/
theorem witness_uplink_records :
    (∃ s : State, s.resetHeld = false ∧ s.uplinkMonitor = .up 0 ∧ s.uplinkRx.phase = .classByte
      ∧ s.outbound.length < 16 ∧ s.requestFifo.length < 4)
    ∧ (∃ s : State, s.resetHeld = false ∧ s.uplinkMonitor = .up 0 ∧ s.uplinkRx.phase = .classByte
      ∧ s.outbound.length = 16 ∧ s.requestFifo.length = 4)
    ∧ (0x13#8 : Byte) ∉ [0x01#8, 0x02#8, 0x03#8, 0x11#8, 0x12#8]
    ∧ (List.replicate 9 (0#8 : Byte)).length = 9 ∧ (List.replicate 4 (0#8 : Byte)).length = 4
    ∧ (List.replicate 8 (0#8 : Byte)).length = 8 :=
  ⟨⟨{ base with uplinkRx := ⟨some 0xF1#8, .classByte, []⟩ }, rfl, rfl, rfl, by decide, by decide⟩,
    ⟨{ base with
        uplinkRx := ⟨some 0xF1#8, .classByte, []⟩, outbound := List.replicate 16 ⟨0, 0#8, []⟩
        requestFifo := List.replicate 4 (req 0#8 []) }, rfl, rfl, rfl, rfl, rfl⟩, by decide, rfl, rfl, rfl⟩

/-- LineLossAbandonsTheRecord: each phase of a reception on an UP line whose 1000 µs have passed; a byte received in that
microsecond; a line one microsecond short of it; and DOWN lines. -/
theorem witness_line_loss :
    (∃ s : State, s.resetHeld = false ∧ s.fieldMonitor = .up 1000 ∧ s.fieldRx.phase = .hunt
      ∧ s.uplinkMonitor = .up 1000 ∧ s.uplinkRx.phase = .hunt
      ∧ (∃ t, exec (.byteReceived .field 0xF0#8) s = .next t) ∧ ∃ t, exec (.byteReceived .uplink 0xF0#8) s = .next t)
    ∧ (∃ s : State, s.resetHeld = false ∧ s.fieldMonitor = .up 1000 ∧ s.fieldRx.phase = .body (some 191) 1
      ∧ s.uplinkMonitor = .up 1000 ∧ s.uplinkRx.phase ≠ .hunt)
    ∧ (∃ s : State, s.resetHeld = false ∧ s.fieldMonitor = .up 1000 ∧ s.fieldRx.phase = .check none none
      ∧ s.uplinkMonitor = .down 0)
    ∧ (∃ s : State, s.resetHeld = false ∧ s.fieldMonitor = .up 999 ∧ s.uplinkMonitor = .up 999)
    ∧ (∃ s : State, s.resetHeld = false ∧ s.fieldMonitor = .down 0) :=
  ⟨⟨{ base with fieldMonitor := .up 1000, uplinkMonitor := .up 1000 }, rfl, rfl, rfl, rfl, rfl, ⟨_, rfl⟩, _, rfl⟩,
    ⟨{ base with
        fieldMonitor := .up 1000, fieldRx := ⟨none, .body (some 191) 1⟩, uplinkMonitor := .up 1000
        uplinkRx := ⟨none, .classByte, []⟩ }, rfl, rfl, rfl, rfl, by decide⟩,
    ⟨{ base with fieldMonitor := .up 1000, fieldRx := ⟨none, .check none none⟩, uplinkMonitor := .down 0 },
      rfl, rfl, rfl, rfl⟩,
    ⟨{ base with fieldMonitor := .up 999, uplinkMonitor := .up 999 }, rfl, rfl, rfl⟩,
    ⟨{ base with fieldMonitor := .down 0 }, rfl, rfl⟩⟩

/-- FieldTransmitterSendsByState: an entry for an OPEN and for a CLOSED channel at an idle transmitter, and each condition under
which nothing is taken. -/
theorem witness_field_transmitter :
    (∃ s : State, s.resetHeld = false ∧ s.fieldTx = .idle ∧ s.fieldMonitor = .up 0 ∧ s.outbound = [⟨127, 0#8, []⟩]
      ∧ (s.context 127).state ≠ .closed)
    ∧ (∃ s : State, s.resetHeld = false ∧ s.fieldTx = .idle ∧ s.fieldMonitor = .up 0 ∧ s.outbound = [⟨127, 0#8, []⟩]
      ∧ (s.context 127).state = .closed)
    ∧ (∃ s : State, s.resetHeld = false ∧ s.fieldMonitor = .down 0) ∧ (∃ s : State, s.resetHeld = false ∧ s.outbound = [])
    ∧ (∃ s : State, s.resetHeld = false ∧ s.fieldTx ≠ .idle) :=
  ⟨⟨{ base with outbound := [⟨127, 0#8, []⟩] }, rfl, rfl, rfl, rfl, by decide +kernel⟩,
    ⟨{ withContext 127 (Context.powerOn .closed) with outbound := [⟨127, 0#8, []⟩] }, rfl, rfl, rfl, rfl,
      by decide +kernel⟩,
    ⟨{ base with fieldMonitor := .down 0 }, rfl, rfl⟩, ⟨base, rfl, rfl⟩,
    ⟨{ base with fieldTx := .sending [] 0 }, rfl, by decide⟩⟩

/-- The base state with a QUEUED record in slot 0, at the head of Queue 3. -/
def queued : State :=
  { base with
    slots := base.slots.set 0 (.queued (short 9 0x20#8) 3 ⟨0x20#8, 0, 0#8, .defaultVerdict⟩)
    queues := base.queues.set 3 ⟨[0], 48⟩ }

/-- GrantOrder: a response, a notice alone, a QUEUED slot alone, and nothing to grant; and a DOWN uplink or a busy
transmitter. -/
theorem witness_grant :
    (∃ s : State, s.resetHeld = false ∧ s.uplinkTx = .idle ∧ s.uplinkMonitor = .up 0 ∧ s.responses = [⟨1#16, 1#8, .ok, []⟩])
    ∧ (∃ s : State, s.resetHeld = false ∧ s.uplinkTx = .idle ∧ s.uplinkMonitor = .up 0 ∧ s.responses = []
      ∧ s.notices = [restartedPowerOn])
    ∧ (queued.resetHeld = false ∧ queued.uplinkTx = .idle ∧ queued.uplinkMonitor = .up 0 ∧ queued.responses = []
      ∧ queued.notices = [] ∧ (∀ p : QueueId, p < 3 → queued.queues[p].slots = [])
      ∧ queued.queues[(3 : QueueId)].slots = [0]
      ∧ queued.slot 0 = .queued (short 9 0x20#8) 3 ⟨0x20#8, 0, 0#8, .defaultVerdict⟩)
    ∧ (base.resetHeld = false ∧ base.uplinkTx = .idle ∧ base.uplinkMonitor = .up 0 ∧ base.responses = []
      ∧ base.notices = [] ∧ ∀ q : QueueId, base.queues[q].slots = [])
    ∧ (∃ s : State, s.resetHeld = false ∧ s.uplinkMonitor = .down 0)
    ∧ (∃ s : State, s.resetHeld = false ∧ s.uplinkTx ≠ .idle) :=
  ⟨⟨{ base with responses := [⟨1#16, 1#8, .ok, []⟩] }, rfl, rfl, rfl, rfl⟩,
    ⟨{ base with notices := [restartedPowerOn] }, rfl, rfl, rfl, rfl, rfl⟩,
    ⟨rfl, rfl, rfl, rfl, rfl, by decide +kernel, by decide +kernel, by decide +kernel⟩,
    ⟨rfl, rfl, rfl, rfl, rfl, by decide +kernel⟩, ⟨{ base with uplinkMonitor := .down 0 }, rfl, rfl⟩,
    ⟨{ base with uplinkTx := .sending .notice [] 0 }, rfl, by decide⟩⟩

/-- UplinkCompletionFreesTheSlot: a SENDING slot, and a response being sent. -/
theorem witness_uplink_completion :
    (∃ s : State, s.resetHeld = false ∧ s.uplinkTx = .sending (.slot 0) [] 3
      ∧ s.slot 0 = .sending (short 9 0x20#8) 3 ⟨0x20#8, 0, 0#8, .defaultVerdict⟩)
    ∧ ∃ s : State, s.resetHeld = false ∧ s.uplinkTx = .sending .response [] 3 :=
  ⟨⟨{ base with
      uplinkTx := .sending (.slot 0) [] 3
      slots := base.slots.set 0 (.sending (short 9 0x20#8) 3 ⟨0x20#8, 0, 0#8, .defaultVerdict⟩) },
    rfl, rfl, by decide +kernel⟩, ⟨{ base with uplinkTx := .sending .response [] 3 }, rfl, rfl⟩⟩

/-- A context with a Watch Limit, in a phase, with a Gap Count. -/
def watching (limit : Nat) (phase : WatchPhase) (gap : Nat) : Context :=
  { Context.powerOn .opened with watchLimit := some limit, watchPhase := phase, gapCount := gap }

/-- The base state with channel 7 in a context and a tick claim and a window expiry outstanding on it. -/
def claimed (c : Context) : State := { withContext 7 c with watchClaims := [7], windowClaims := [(7, 5#32)] }

/-- TickRaisesItsClaims: a RUNNING channel, and Deadlines reached and not reached at the tick, at the boundary and across the
wrap of the count. -/
theorem witness_tick :
    base.resetHeld = false ∧ (withContext 7 (watching 1 .running 0)).resetHeld = false
      ∧ (BitVec.toNat (5#32 - 5#32) < 2 ^ 31) ∧ (BitVec.toNat (0#32 - 0xFFFFFFFF#32) < 2 ^ 31)
      ∧ ¬ (BitVec.toNat (4#32 - 5#32) < 2 ^ 31) := by decide +kernel

/-- TickClaimCountsAndLimitExpires: RUNNING at and beyond its Watch Limit, OVERDUE short of 60,000, the phases that stand still,
and no claim. -/
theorem witness_tick_claim :
    base.resetHeld = false ∧ (7 : Channel) ∉ base.watchClaims
      ∧ (∀ c : Context, 7 ∈ (claimed c).watchClaims ∧ (claimed c).context 7 = c)
      ∧ (Context.powerOn .opened).watchPhase = .off ∧ (watching 1 .idle 0).watchPhase = .idle
      ∧ (watching 1 .silent 60000).watchPhase = .silent
      ∧ (let c := watching 59999 .running 59998; c.watchPhase = .running ∧ c.watchLimit = some 59999 ∧ c.gapCount + 1 ≤ 59999)
      ∧ (let c := watching 1 .overdue 59998; c.watchPhase = .overdue ∧ c.gapCount + 1 < 60000)
      ∧ (let c := watching 1 .running 1; c.watchPhase = .running ∧ c.watchLimit = some 1 ∧ 1 < c.gapCount + 1
        ∧ c.gapCount + 1 ≠ 60000) := by
  refine ⟨rfl, by decide, fun c => ⟨by simp [claimed], by simp [claimed, withContext, State.context]⟩, rfl, rfl, rfl, ?_, ?_, ?_⟩
    <;> decide

/-- SilenceExpiryAppliesItsAction: OVERDUE, and RUNNING under a Watch Limit of 59,999, each at 59,999, for each of the three
rows that take the claim. -/
theorem witness_silence :
    (∀ c : Context, (claimed c).resetHeld = false ∧ 7 ∈ (claimed c).watchClaims ∧ (claimed c).context 7 = c)
      ∧ (let c := watching 1 .overdue 59999; c.state ≠ .closed ∧ c.gapCount = 59999 ∧ c.watchPhase = .overdue)
      ∧ (let c := watching 59999 .running 59999
         c.state ≠ .closed ∧ c.gapCount = 59999 ∧ c.watchPhase = .running ∧ c.watchLimit = some 59999) := by
  refine ⟨fun c => ⟨rfl, by simp [claimed], by simp [claimed, withContext, State.context]⟩, ?_, ?_⟩ <;> decide

/-- WindowExpiryEndsTheRun: an expiry of channel 7 behind one of another channel, with a Deadline reached, one not reached, and
none; and a CLOSED channel in a state whose runs are sound. -/
theorem witness_window :
    (∃ (s : State) (before after : List (Channel × Word32)), s.resetHeld = false
      ∧ s.windowClaims = before ++ (7, 5#32) :: after ∧ before ≠ [] ∧ ∀ k ∈ before, k.1 ≠ 7)
    ∧ (∀ d : Option Word32, ((claimed { Context.powerOn .opened with chainDeadline := d }).context 7).chainDeadline = d)
    ∧ reachedAt 5#32 5#32 ∧ ¬ reachedAt 5#32 6#32
    ∧ (∃ s : State, RunsSound s ∧ s.windowClaims = [(7, 5#32)] ∧ (s.context 7).state = .closed) := by
  refine ⟨⟨{ base with windowClaims := [(6, 5#32), (7, 5#32)] }, [(6, 5#32)], [], rfl, rfl, by simp, by simp⟩,
    fun d => by simp [claimed, withContext, State.context], by simp [reachedAt], by simp [reachedAt],
    ⟨{ State.reset with windowClaims := [(7, 5#32)] }, ⟨trivial, fun ch => ?_⟩, rfl, ?_⟩⟩
  · simp [State.context, State.reset, Context.RunSound, Context.powerOn]
  · simp [State.context, State.reset, Context.powerOn]

/-- TakeRecordsBankAndGeneration: a WAITING head with an IDLE Classifier, a BUSY one, and an empty FIFO. -/
theorem witness_take :
    (∃ s : State, s.resetHeld = false ∧ s.classifier = .idle ∧ s.classifyFifo = [0] ∧ s.slot 0 = .waiting (short 9 0#8) false)
    ∧ ((judging base (short 9 0#8)).resetHeld = false ∧ (judging base (short 9 0#8)).classifier ≠ .idle)
    ∧ (base.resetHeld = false ∧ base.classifyFifo = []) :=
  ⟨⟨{ base with classifyFifo := [0], slots := base.slots.set 0 (.waiting (short 9 0#8) false) }, rfl, rfl, rfl,
    by decide +kernel⟩, ⟨rfl, by decide⟩, rfl, rfl⟩

/-- A bank whose entry 95 is VALID and matches Kind 31h alone, and whose chain 15 names it twice. -/
def loaded (mode : ChainMode) : Bank :=
  { Bank.empty with
    rules := Bank.empty.rules.set 95
      ⟨true, ⟨(Vector.replicate 8 ⟨0#8, 0#8⟩).set 1 ⟨0x31#8, 0xFF#8⟩, 0, 248⟩, Verdict.empty⟩
    chains := Bank.empty.chains.set 15 ⟨[.rule 95, .any], mode, 60000, .noticeOnly, .identity, 1, true⟩ }

/-- SearchFindsTheFirstMatch: entry 95 alone claims Kind 31h, no entry claims Kind 32h, and two records that differ only beyond
the Key Window. -/
theorem witness_search :
    (let b := loaded .strict
     let claims (r : UpRecord) (i : RuleIndex) : Prop := b.rules[i].valid = true ∧ b.rules[i].pattern.matches r = true
     (claims (short 1 0x31#8) 95 ∧ ∀ j, j < 95 → ¬ claims (short 1 0x31#8) j) ∧ ∀ i, ¬ claims (short 1 0x32#8) i)
    ∧ (let r : UpRecord := ⟨0#32, 1, 0#8, List.replicate 6 0#8 ++ [0#8]⟩
       let r' : UpRecord := ⟨9#32, 1, 0#8, List.replicate 6 0#8 ++ [1#8]⟩
       r' ≠ r ∧ r'.channel = r.channel ∧ r'.kind = r.kind ∧ r'.body.take 6 = r.body.take 6
        ∧ r'.body.length = r.body.length) := by
  decide +kernel

/-- A context bound to chain 15 with a Progress. -/
def bound (progress : Nat) : Context := { Context.powerOn .opened with chainBinding := some 15, chainProgress := progress }

/-- ChainStepOutcomes: no binding; an undefined chain; a match at step 0 and at the last step; a STRICT mismatch at step 0 and
above it, with and without a match of step 0; a LENIENT mismatch. -/
theorem witness_chain_step :
    (Context.powerOn .opened).chainBinding = none ∧ Bank.empty.chains[(15 : ChainId)].steps = []
      ∧ (∀ m p, (loaded m).chains[(15 : ChainId)].steps.length = 2 ∧ (loaded m).chains[(15 : ChainId)].mode = m
        ∧ (bound p).chainBinding = some 15 ∧ (bound p).chainProgress = p)
      ∧ (∀ m, stepMatched (loaded m) (short 1 0x31#8) (loaded m).chains[(15 : ChainId)] 0)
      ∧ (∀ m, stepMatched (loaded m) (short 1 0x31#8) (loaded m).chains[(15 : ChainId)] 1)
      ∧ (∀ m, ¬ stepMatched (loaded m) (short 1 0x32#8) (loaded m).chains[(15 : ChainId)] 0)
      ∧ (∀ m, ¬ stepMatched (loaded m) (short 1 0x31#8) (loaded m).chains[(15 : ChainId)] 2)
      ∧ (∀ m, ¬ stepMatched (loaded m) (short 1 0x32#8) (loaded m).chains[(15 : ChainId)] 2) := by
  have steps : ∀ m, (loaded m).chains[(15 : ChainId)].steps = [.rule 95, .any] := fun m => by cases m <;> decide +kernel
  have hit : ∀ m, (loaded m).rules[(95 : RuleIndex)].valid = true
      ∧ (loaded m).rules[(95 : RuleIndex)].pattern.matches (short 1 0x31#8) = true := fun m => by cases m <;> decide +kernel
  have miss : ∀ m, (loaded m).rules[(95 : RuleIndex)].pattern.matches (short 1 0x32#8) = false := fun m => by
    cases m <;> decide +kernel
  refine ⟨rfl, by decide +kernel, fun m p => ⟨by rw [steps]; rfl, by cases m <;> decide +kernel, rfl, rfl⟩,
    fun m => ⟨.rule 95, by rw [steps]; rfl, hit m⟩, fun m => ⟨.any, by rw [steps]; rfl, trivial⟩, fun m h => ?_,
    fun m h => ?_, fun m h => ?_⟩ <;> obtain ⟨st, h, hm⟩ := h <;> rw [steps] at h <;> cases h
  exact absurd hm.2 (by rw [miss]; decide)

/-- HeartbeatByPhase: each phase, with HELD set and clear. -/
theorem witness_heartbeat :
    ∀ phase ∈ [WatchPhase.off, .idle, .running, .overdue, .silent], ∀ held : Bool,
      ({ watching 1 phase 0 with held := held } : Context).watchPhase = phase
        ∧ ({ watching 1 phase 0 with held := held } : Context).held = held := by
  intro phase _ held
  exact ⟨rfl, rfl⟩

/-- The four statements about a completion: channels in each State, with a swap of each kind armed, and for the marker a record
that its entry's Pattern matches. -/
theorem witness_completion :
    (∀ st : ChannelState, ∀ swap : SwapState,
      let s := { judging (withContext 9 (Context.powerOn st)) (short 9 0x31#8) with swap := swap, bankA := loaded .strict }
      s.Classifies 0 [] .a 0#8 (short 9 0x31#8) ∧ (s.context 9).state = st ∧ s.swap = swap)
    ∧ (loaded .strict).rules[(95 : RuleIndex)].pattern.matches (short 9 0x31#8) = true
    ∧ (loaded .strict).rules[(95 : RuleIndex)].pattern.matches (short 9 0x32#8) = false := by
  refine ⟨fun st swap => ⟨⟨rfl, rfl, rfl, by simp [judging, State.slot]⟩, ?_, rfl⟩, by decide +kernel, by decide +kernel⟩
  simp [judging, withContext, State.context, Context.powerOn]

/-- RaisedNoticeMeetsTheQueue: a masked kind; a QUEUE_DROP and a POOL_DROP that meet a pending entry; 15 ordinary notices
pending with and without a NOTICE_LOSS; and a place free. -/
theorem witness_notice :
    (∃ s : State, s.noticeMask.raises .late = false)
      ∧ (base.noticeMask.raises .queueDrop = true ∧ base.noticeMask.raises .poolDrop = true)
      ∧ (∃ s : State, s.notices = [restartedPowerOn] ++ queueDropNotice 3 :: [queueDropNotice 2]
        ∧ (queueDropNotice 3).subject ≠ (queueDropNotice 2).subject)
      ∧ (∃ s : State, s.notices = [] ++ { poolDropNotice with detail := 0xFFFFFFFF#32 } :: [])
      ∧ (∃ s : State, (s.notices.filter fun p => p.kind != .noticeLoss).length = 15
        ∧ s.notices = List.replicate 15 restartedPowerOn ++ firstLoss :: [])
      ∧ (∃ s : State, (s.notices.filter fun p => p.kind != .noticeLoss).length = 15
        ∧ ∀ p ∈ s.notices, p.kind ≠ .noticeLoss)
      ∧ (∃ s : State, (s.notices.filter fun p => p.kind != .noticeLoss).length = 14) :=
  ⟨⟨{ base with noticeMask := ⟨true, false, true, true, true, true, true, true⟩ }, rfl⟩, ⟨rfl, rfl⟩,
    ⟨{ base with notices := [restartedPowerOn, queueDropNotice 3, queueDropNotice 2] }, rfl, by decide⟩,
    ⟨{ base with notices := [{ poolDropNotice with detail := 0xFFFFFFFF#32 }] }, rfl⟩,
    ⟨{ base with notices := List.replicate 15 restartedPowerOn ++ [firstLoss] }, by decide, rfl⟩,
    ⟨{ base with notices := List.replicate 15 restartedPowerOn }, by decide, by decide⟩,
    ⟨{ base with notices := List.replicate 14 restartedPowerOn }, by decide⟩⟩

/-- DuplicateReceivesTheStoredResponse: a request whose number is that of the Stored Response, with 3 responses pending. -/
theorem witness_duplicate :
    ∃ (s : State) (p : Response), s.Takes (req 0x30#8 []) [] ∧ s.stored = some p ∧ p.number = (req 0x30#8 []).number
      ∧ s.responses.length = 3 :=
  ⟨{ base with
      requestFifo := [req 0x30#8 []], stored := some ⟨1#16, 0x01#8, .ok, []⟩
      responses := List.replicate 3 ⟨1#16, 0x01#8, .ok, []⟩ },
    ⟨1#16, 0x01#8, .ok, []⟩, ⟨rfl, rfl, by decide, rfl⟩, rfl, rfl, rfl⟩

/-- UnknownCommandsAndBadLengthsRefused: an unknown Command; and for commands of each shape of Length, the row and a Length that
is not accepted. -/
theorem witness_refused :
    (∀ command params, (ask base (req command params)).Executes (req command params) [] command)
      ∧ (0x00#8 : Byte) ∉ commandCodes ∧ (0x31#8 : Byte) ∉ commandCodes
      ∧ (rowTakes 0x01#8 [0#8] .identify ∧ ¬ acceptsLength 0x01#8 [0#8])
      ∧ (rowTakes 0x1A#8 [0x02#8] .armSwapMarker ∧ ¬ acceptsLength 0x1A#8 [0x02#8])
      ∧ (rowTakes 0x1A#8 [0x01#8, 0#8] .armSwapNext ∧ ¬ acceptsLength 0x1A#8 [0x01#8, 0#8])
      ∧ (rowTakes 0x22#8 [0#8, 0#8] .readCounters ∧ ¬ acceptsLength 0x22#8 [0#8, 0#8]) := by
  refine ⟨fun c p => ask_executes base c p rfl, by decide, by decide, ?_, ?_, ?_, ?_⟩ <;> simp [rowTakes, acceptsLength]

/-- OnlyItsOwnRowTakesARequest: an empty Request FIFO; a BUSY engine; 4 responses pending; a duplicate; and a request of
another row. -/
theorem witness_own_row :
    base.requestFifo = [] ∧ (∃ s : State, s.engine ≠ .idle) ∧ (∃ s : State, 4 ≤ s.responses.length)
      ∧ (∃ s : State, s.requestFifo = [req 0x01#8 []] ∧ ∃ p, s.stored = some p ∧ p.number = (req 0x01#8 []).number)
      ∧ (ask base (req 0x01#8 [])).requestFifo = [req 0x01#8 []]
      ∧ (∀ p, (ask base (req 0x01#8 [])).stored = some p → p.number ≠ (req 0x01#8 []).number)
      ∧ (∀ j, rowTakes (req 0x01#8 []).command (req 0x01#8 []).params j → Instr.readStatus ≠ j) := by
  refine ⟨rfl, ⟨{ base with engine := .copying (req 0x18#8 []) 0 }, by decide⟩,
    ⟨{ base with responses := List.replicate 4 ⟨1#16, 0x01#8, .ok, []⟩ }, by decide⟩,
    ⟨{ base with requestFifo := [req 0x01#8 []], stored := some ⟨1#16, 0x01#8, .ok, []⟩ }, rfl, _, rfl, rfl⟩, rfl,
    (fun p h => nomatch h), fun j h => ?_⟩
  simp [rowTakes, req] at h
  simp [h]

/-- The statements about one request (IDENTIFY to RESTART TRAFFIC): every request finds a state that executes it, with the swap
idle or armed and the Classifier IDLE or BUSY. -/
theorem witness_requests :
    ∀ (command : Byte) (params : List Byte) (swap : SwapState) (classifier : Classifier),
      let s := ask { base with swap := swap, classifier := classifier } (req command params)
      s.Executes (req command params) [] command ∧ s.swap = swap ∧ s.classifier = classifier :=
  fun command params swap classifier =>
    ⟨ask_executes { base with swap := swap, classifier := classifier } command params rfl, rfl, rfl⟩

/-- ReadContextAndReadWatch, ModifyContextIsValidatedWhole and AckWatchClearsLateAndHeld: channels at both ends of the range and
beyond it, and a range in the wrong order. -/
theorem witness_channels :
    (0#8).toNat < 128 ∧ (127#8).toNat < 128 ∧ 127 < (128#8).toNat ∧ (0#8).toNat ≤ (127#8).toNat ∧ (0#8).toNat < (1#8).toNat := by
  decide

/-- ModifyContextIsValidatedWhole: six assignments of different fields at the ends of their ranges; a repeated field; and a value
that is none. -/
theorem witness_modify :
    (let list : List Assignment :=
        [.state .closed, .chainBinding (some 15), .watchLimit (some 59999), .silenceAction .close, .notify false,
          .override (.map 7) 15]
     list.length = 6 ∧ (∀ a ∈ list, a.wf = true) ∧ (list.map fun a => a.bytes.head?).Nodup ∧ list.flatMap Assignment.bytes
          = [1#8, 0#8, 0#8, 2#8, 15#8, 0#8, 3#8, 0xEA#8, 0x5F#8, 4#8, 2#8, 0#8, 5#8, 0#8, 0#8, 6#8, 7#8, 15#8])
    ∧ (let items : List (List Byte) := [[5#8, 0#8, 0#8], [5#8, 1#8, 0#8]]
       (∀ x ∈ items, x.length = 3) ∧ ¬ (items.map fun x => x.head?).Nodup)
    ∧ parseAssignment [3#8, 0xEA#8, 0x60#8] = none := by decide +kernel

/-- ModifyContextSettlesTheChannel: each of the five ends: a Watch Limit OFF; a watch that starts; one that stays; and a limit
lowered below the Gap Count. -/
theorem witness_settle :
    (∃ s : State, s.resetHeld = false ∧ s.engine = .modifying (req 4#8 []) [.state .closed] [9])
    ∧ (∃ s : State, s.resetHeld = false ∧ s.engine = .modifying (req 4#8 []) [.watchLimit (some 1)] [9, 10]
      ∧ (assign (s.context 9) (.watchLimit (some 1))).watchPhase = .off ∧ (s.context 9).state ≠ .closed)
    ∧ (∃ s : State, s.resetHeld = false ∧ s.engine = .modifying (req 4#8 []) [.watchLimit (some 5)] [9]
      ∧ s.context 9 = watching 9 .running 5 ∧ ¬ 5 < (s.context 9).gapCount)
    ∧ (∃ s : State, s.resetHeld = false ∧ s.engine = .modifying (req 4#8 []) [.watchLimit (some 5)] [9]
      ∧ s.context 9 = watching 9 .running 6 ∧ 5 < (s.context 9).gapCount) := by
  refine ⟨⟨{ base with engine := .modifying (req 4#8 []) [.state .closed] [9] }, rfl, rfl⟩,
    ⟨{ base with engine := .modifying (req 4#8 []) [.watchLimit (some 1)] [9, 10] }, rfl, rfl, ?_, ?_⟩,
    ⟨{ withContext 9 (watching 9 .running 5) with engine := .modifying (req 4#8 []) [.watchLimit (some 5)] [9] },
      rfl, rfl, ?_, ?_⟩,
    ⟨{ withContext 9 (watching 9 .running 6) with engine := .modifying (req 4#8 []) [.watchLimit (some 5)] [9] },
      rfl, rfl, ?_, ?_⟩⟩
    <;> decide +kernel

/-- AckWatchClearsLateAndHeld: the event of a channel of an ACK WATCH, the last and not the last. -/
theorem witness_ack :
    (∃ s : State, s.resetHeld = false ∧ s.engine = .acking (req 6#8 []) [127])
    ∧ ∃ s : State, s.resetHeld = false ∧ s.engine = .acking (req 6#8 []) [126, 127] :=
  ⟨⟨{ base with engine := .acking (req 6#8 []) [127] }, rfl, rfl⟩,
    ⟨{ base with engine := .acking (req 6#8 []) [126, 127] }, rfl, rfl⟩⟩

/-- The writers: entries within their ranges at the end of each table and one past it, with non-zero bytes that are not
examined, and items that are none. -/
theorem witness_writers :
    ((∀ e ∈ [RuleEntry.empty], e.wf = true) ∧ (ruleBytes RuleEntry.empty).length = 24 ∧ (95#8).toNat + 1 ≤ 96 ∧ 96 < (95#8).toNat + 2
        ∧ parseRule (List.replicate 24 0xFF#8) = none ∧ (List.replicate 24 (0xFF#8 : Byte)).length = 24)
    ∧ (let d := (loaded .strict).chains[(15 : ChainId)]
       d.wf = true ∧ d.steps ≠ [] ∧ d.steps.length + (List.replicate 6 (0xAA#8 : Byte)).length = 8
        ∧ chainBytes d (List.replicate 6 0xAA#8)
          = [2#8, 95#8, 0xFF#8, 0xAA#8, 0xAA#8, 0xAA#8, 0xAA#8, 0xAA#8, 0xAA#8, 0#8, 0xEA#8, 0x60#8, 0#8, 0xFF#8, 1#8, 1#8]
        ∧ parseChain (chainBytes d (List.replicate 6 0xAA#8)) ≠ none
        ∧ parseChain (1#8 :: List.replicate 15 0#8) = none)
    ∧ ((192#8).toNat + 64 ≤ 256 ∧ 256 < (193#8).toNat + 64 ∧ 7 < (8#8).toNat)
    ∧ ([(MapEntry.drop, 0xFF#8), (.out 9#8, 0xFF#8)].flatMap (fun e => mapEntryBytes e.2 e.1) = [1#8, 0xFF#8, 0#8, 9#8])
    ∧ (parseVerdict Verdict.empty.bytes ≠ none ∧ Verdict.empty.bytes.length = 5
      ∧ parseVerdict [3#8, 0#8, 0#8, 0#8, 0#8] = none) := by decide +kernel

/-- The readers: each bank selector and one that is none, at the last items of each table and past them. -/
theorem witness_readers :
    (95#8).toNat + (1#8).toNat ≤ 96 ∧ ¬ (95#8).toNat + (2#8).toNat ≤ 96 ∧ (15#8).toNat < 16 ∧ ¬ (16#8).toNat < 16
      ∧ (192#8).toNat + (64#8).toNat ≤ 256 ∧ ¬ (193#8).toNat + (64#8).toNat ≤ 256 ∧ (7#8).toNat < 8
      ∧ (2#8 : Byte) ≠ 0x00#8 ∧ (2#8 : Byte) ≠ 0x01#8 := by decide

/-- The completions of the long operations. -/
theorem witness_long :
    (∃ s : State, s.resetHeld = false ∧ s.engine = .copying (req 0x18#8 []) 299)
    ∧ ∃ s : State, s.resetHeld = false ∧ s.engine = .clearing (req 0x19#8 []) 0 :=
  ⟨⟨{ base with engine := .copying (req 0x18#8 []) 299 }, rfl, rfl⟩,
    ⟨{ base with engine := .clearing (req 0x19#8 []) 0 }, rfl, rfl⟩⟩

/-- ArmSwapPerformsOrArms: a VALID and an EMPTY marker entry, the last index and one past it, and a Trigger that is none. -/
theorem witness_arm :
    (let s := ask { base with bankA := loaded .strict } (req 0x1A#8 [0x02#8, 95#8])
     s.Executes (req 0x1A#8 [0x02#8, 95#8]) [] 0x1A#8 ∧ s.activeBank.rules[(95 : RuleIndex)].valid = true
        ∧ s.activeBank.rules[(94 : RuleIndex)].valid = false ∧ s.swap = .idle)
    ∧ (95#8).toNat < 96 ∧ 95 < (96#8).toNat ∧ (0#8 : Byte) ≠ 0x01#8 ∧ (0#8 : Byte) ≠ 0x02#8 :=
  ⟨⟨ask_executes { base with bankA := loaded .strict } _ _ rfl, by decide +kernel, by decide +kernel, rfl⟩, by decide⟩

/-- CancelSwapDisarms: a CANCEL SWAP waiting behind a classification that will perform the armed swap. -/
theorem witness_cancel :
    ∃ s : State, s.Executes (req 0x1B#8 []) [] 0x1B#8 ∧ s.Classifies 0 [] .a 0#8 (short 9 0#8) ∧ s.swap = .armedNext :=
  ⟨ask { judging base (short 9 0#8) with swap := .armedNext } (req 0x1B#8 []),
    ask_executes { judging base (short 9 0#8) with swap := .armedNext } _ _ rfl,
    ⟨rfl, rfl, rfl, by simp [ask, judging, State.slot]⟩, rfl⟩

/-- LimitsAndMaskWrittenWhole: Limits at both ends of the range and beyond it, a mask, and an enable that is none. -/
theorem witness_limits :
    (1 ≤ (1#8).toNat ∧ (64#8).toNat ≤ 64) ∧ ¬ (1 ≤ (0#8).toNat) ∧ ¬ ((65#8).toNat ≤ 64)
      ∧ ([false, true, false, true, false, true, false, true].map bitByte).length = 8
      ∧ (2#8 : Byte) ≠ 0x00#8 ∧ (2#8 : Byte) ≠ 0x01#8 := by decide

/-- EntryEncodingsRoundTrip: well-formed entries, and bytes that are read, with non-zero bytes that are not examined. -/
theorem witness_encodings :
    RuleEntry.empty.wf = true ∧ (parseRule RuleEntry.empty.bytes).isSome = true ∧ (parseVerdict Verdict.empty.bytes).isSome = true
      ∧ (loaded .lenient).chains[(15 : ChainId)].wf = true ∧ (loaded .lenient).chains[(15 : ChainId)].steps ≠ []
      ∧ parseChain (0#8 :: List.replicate 15 0xFF#8) = some ChainDef.empty
      ∧ (let d := (loaded .lenient).chains[(15 : ChainId)]
         let bs := chainBytes d (List.replicate 6 0xAA#8)
         bs.length = 16 ∧ bs.head? ≠ some 0x00#8 ∧ parseChain bs = some d)
      ∧ parseMapEntry [1#8, 0xFF#8] = some .drop
      ∧ (Assignment.watchLimit (some 1)).wf = true ∧ (parseAssignment [2#8, 0xFF#8, 0#8]).isSome = true := by decide +kernel

/-- The QUEUED record of `queued` agrees with the lists of its state. -/
theorem witness_pool : PoolSound queued where
  fifo_nodup := by decide
  fifo_waiting i := by
    rw [show queued.slot i = _ from slot_of_base _ i]
    split <;> simp [queued, base, State.reset, Slot.isWaiting]
  queue_nodup := by decide +kernel
  queue_queued q i := by
    rw [show queued.slot i = _ from slot_of_base _ i]
    have h : queued.queues[q].slots = if q = 3 then [0] else [] := by revert q; decide +kernel
    rw [h]
    by_cases hq : q = 3 <;> by_cases hi : i = 0 <;> simp [hq, hi]
    exact fun e => hq e.symm
  receiving i := by
    rw [show queued.slot i = _ from slot_of_base _ i]
    split <;> simp [queued, base, State.reset, FieldPhase.reception]
  sending i := by
    rw [show queued.slot i = _ from slot_of_base _ i]
    split <;> simp [queued, base, State.reset]
  in_classification i := by
    rw [show queued.slot i = _ from slot_of_base _ i]
    split <;> simp [queued, base, State.reset]
  in_flight_head i b g h := by cases h

/-- QueuedRecordsKeepTheirContents: that record, with the grant that takes it. -/
theorem witness_queued :
    PoolSound queued ∧ queued.slot 0 = .queued (short 9 0x20#8) 3 ⟨0x20#8, 0, 0#8, .defaultVerdict⟩
      ∧ (after .uplinkGrant queued).slot 0 = .sending (short 9 0x20#8) 3 ⟨0x20#8, 0, 0#8, .defaultVerdict⟩ :=
  ⟨witness_pool, by decide +kernel, by decide +kernel⟩

/-- WatchAgreementIsKept: a RUNNING watch at its Watch Limit, and an assignment in hand. -/
theorem witness_watches :
    ∃ s : State, WatchesSound s ∧ s.context 7 = watching 59999 .running 59999
      ∧ s.engine = .modifying (req 4#8 []) [.watchLimit none] [7] := by
  refine ⟨{ withContext 7 (watching 59999 .running 59999) with
    engine := .modifying (req 4#8 []) [.watchLimit none] [7] }, ⟨by simp [EngineWf, Assignment.wf, watchLimitWf], ?_⟩,
    by decide +kernel, rfl⟩
  unfold Context.WatchSound
  decide +kernel

/-- ChainRunsStaySound: a run at Progress 1 of a chain of 2 steps, with a Deadline. -/
theorem witness_runs :
    ∃ s : State, RunsSound s ∧ (s.context 7).chainProgress = 1 ∧ (s.context 7).chainDeadline = some 5#32 := by
  let c : Context := { bound 1 with chainDeadline := some 5#32 }
  let s : State := { withContext 7 c with bankA := loaded .strict }
  have h7 : s.context 7 = c := by simp [s, withContext, State.context]
  refine ⟨s, ⟨trivial, fun ch => ?_⟩, by rw [h7]; rfl, by rw [h7]⟩
  by_cases h : ch = 7
  · subst h
    rw [h7]
    refine ⟨(fun e => nomatch e), (fun e => nomatch e), fun _ => ⟨(15, (loaded .strict).chains[(15 : ChainId)]), ?_, ?_⟩⟩
      <;> decide +kernel
  · have : s.context ch = Context.powerOn .opened := by
      simp only [s, withContext, State.setContext, State.context]
      rw [Vector_getElem_set_fin (i := (7 : Channel)), if_neg h]
      simp [base]
    rw [this]
    simp [Context.RunSound, Context.powerOn]

/-- CapacitiesAndModesAreKept: every list at its capacity, a DOWN line in HUNT, and a long operation with no swap armed. -/
theorem witness_capacities :
    (∃ s : State, QueuesBounded s ∧ NoticesBounded s ∧ s.notices.length = 16)
    ∧ (∃ s : State, ListsBounded s ∧ s.outbound.length = 16 ∧ s.requestFifo.length = 4 ∧ s.responses.length = 4)
    ∧ (∃ s : State, DownLinesHunt s ∧ s.fieldMonitor = .down 0)
    ∧ (∃ s : State, LongUnarmed s ∧ s.engine = .copying (req 0x18#8 []) 0) := by
  refine ⟨⟨{ base with notices := List.replicate 15 restartedPowerOn ++ [firstLoss] }, ?_, ⟨by decide, by decide, ?_, by decide⟩, rfl⟩,
    ⟨{ base with
        outbound := List.replicate 16 ⟨0, 0#8, []⟩, requestFifo := List.replicate 4 (req 0#8 [])
        responses := List.replicate 4 ⟨1#16, 0x01#8, .ok, []⟩ },
      ⟨by decide, by decide, by decide, fun h => absurd rfl h⟩, rfl, rfl, rfl⟩,
    ⟨{ base with fieldMonitor := .down 0 }, ⟨fun _ => rfl, fun _ => rfl⟩, rfl⟩,
    ⟨{ base with engine := .copying (req 0x18#8 []) 0 }, rfl, rfl⟩⟩
  · unfold QueuesBounded
    decide +kernel
  · intro q
    simp [base, restartedPowerOn, firstLoss]

/-- BanksAndGenerationChangeOnlyByTheirEvents: a completion with a swap armed, and a writer that changes a bank. -/
theorem witness_changes :
    (∃ s : State, LongUnarmed s ∧ s.swap ≠ .idle ∧ (after .classifyComplete s).generation ≠ s.generation)
    ∧ ∃ s : State, (after .setDefaultVerdict s).bankB.defaultVerdict ≠ s.bankB.defaultVerdict :=
  ⟨⟨{ judging base (short 9 0#8) with swap := .armedNext }, trivial, by decide, by decide +kernel⟩,
    ⟨ask base (req 0x16#8 [1#8, 0#8, 0#8, 0#8, 0#8]), by decide +kernel⟩⟩

/-- ContextFieldsChangeOnlyInTheirEvents: a MODIFY CONTEXT that writes a field, and for each flag an event that sets it and one
that clears it. -/
theorem witness_context_changes :
    (∃ s : State, ((after .modifyContextChannel s).context 7).watchLimit ≠ (s.context 7).watchLimit)
    ∧ (∃ s : State, (s.context 7).late = false ∧ ((after (.watchTick 7) s).context 7).late = true)
    ∧ (∃ s : State, (s.context 9).held = false ∧ (s.context 9).new = false
      ∧ ((after .classifyComplete s).context 9).held = true ∧ ((after .classifyComplete s).context 9).new = true
      ∧ ((after .classifyComplete s).context 9).lastGap = some 2 ∧ (s.context 9).lastGap = none)
    ∧ (∃ s : State, (s.context 7).held = true ∧ (s.context 7).late = true
      ∧ ((after .ackWatchChannel s).context 7).held = false ∧ ((after .ackWatchChannel s).context 7).late = false)
    ∧ (∃ s : State, (s.context 7).new = true ∧ ((after .readWatch s).context 7).new = false) :=
  ⟨⟨{ withContext 7 (watching 1 .running 0) with engine := .modifying (req 4#8 []) [.watchLimit none] [7] },
      by decide +kernel⟩,
    ⟨claimed (watching 1 .running 1), by decide +kernel, by decide +kernel⟩,
    ⟨judging (withContext 9 { watching 1 .overdue 2 with state := .quarantined }) (short 9 0#8),
      by decide +kernel, by decide +kernel, by decide +kernel, by decide +kernel, by decide +kernel, by decide +kernel⟩,
    ⟨{ withContext 7 { watching 1 .idle 0 with held := true, late := true } with engine := .acking (req 6#8 []) [7] },
      by decide +kernel, by decide +kernel, by decide +kernel, by decide +kernel⟩,
    ⟨ask (withContext 7 { watching 1 .idle 0 with new := true }) (req 5#8 [7#8]), by decide +kernel, by decide +kernel⟩⟩

end Sys2Proof.Tests
end

section
/-! The Check (R2): the register as a division that loses nothing, so that a zero remainder means a good record. -/

-- One proof after another: side by side, each waiting thread takes a stack of its own.
set_option Elab.async false

namespace Sys2Proof.Machine

/-! ## The Check (R2) -/

/-- A shift of the Check register pushes its top bit out and, when that bit is set, adds the divisor. -/
theorem checkShift_eq (x : Word16) : checkShift x = (x <<< 1) ^^^ (if x.msb then 0x1021#16 else 0#16) := by
  unfold checkShift
  split <;> simp [*]

/-- The lowest bit of the shifted register is the bit pushed out, since the divisor is odd. -/
theorem checkShift_getLsbD_zero (x : Word16) : (checkShift x).getLsbD 0 = x.msb := by
  rw [checkShift_eq]
  cases x.msb <;> simp

/-- The shift loses nothing: the bit pushed out tells whether the divisor was added. -/
theorem checkShift_injective : Function.Injective checkShift := by
  intro x y h
  have hmsb : x.msb = y.msb := by
    rw [← checkShift_getLsbD_zero, ← checkShift_getLsbD_zero, h]
  rw [checkShift_eq, checkShift_eq, hmsb, BitVec.xor_left_inj] at h
  refine BitVec.eq_of_getLsbD_eq fun i hi => ?_
  by_cases h15 : i = 15
  · subst h15
    simpa [BitVec.msb_eq_getLsbD_last] using hmsb
  · have hbit := congrArg (fun w => w.getLsbD (i + 1)) h
    have : i + 1 < 16 := by omega
    simpa [BitVec.getLsbD_shiftLeft, this, ← BitVec.getLsbD_eq_getElem hi] using hbit

/-- A byte below the top of the register moves up by plain shifts. -/
theorem checkShift_low (b : Byte) {k : Nat} (hk : k < 8) :
    checkShift (b.setWidth 16 <<< k) = b.setWidth 16 <<< (k + 1) := by
  have hmsb : (b.setWidth 16 <<< k).msb = false := by
    simp only [BitVec.msb_eq_getLsbD_last, BitVec.getLsbD_shiftLeft, BitVec.getLsbD_setWidth]
    rw [BitVec.getLsbD_of_ge b _ (by omega)]
    simp
  rw [checkShift_eq, hmsb]
  simp [BitVec.shiftLeft_add]

/-- One byte is eight shifts of the register with the byte added at its top. -/
theorem checkByte_eq_iterate (reg : Word16) (b : Byte) :
    checkByte reg b = checkShift^[8] (reg ^^^ (b.setWidth 16 <<< 8)) := rfl

/-- Eight shifts keep a zero register. -/
theorem checkShift_iterate_zero : checkShift^[8] 0#16 = 0#16 := by decide

/-- Eight shifts move a byte at the bottom of the register to its top. -/
theorem checkShift_iterate_low (b : Byte) : checkShift^[8] (b.setWidth 16) = b.setWidth 16 <<< 8 := by
  have h (k : Nat) (hk : k ≤ 8) : checkShift^[k] (b.setWidth 16) = b.setWidth 16 <<< k := by
    induction k with
    | zero => simp
    | succ k ih => rw [Function.iterate_succ_apply', ih (by omega), checkShift_low b (by omega)]
  exact h 8 le_rfl

/-- A byte leaves the register at zero exactly when it is the whole register, at its top. -/
theorem checkByte_eq_zero_iff (reg : Word16) (b : Byte) : checkByte reg b = 0#16 ↔ reg = b.setWidth 16 <<< 8 := by
  rw [checkByte_eq_iterate, ← checkShift_iterate_zero, (checkShift_injective.iterate 8).eq_iff, BitVec.xor_eq_zero_iff]

/-- Two bytes as a word: the first at the top, the second below it. -/
theorem word_eq_xor (hi lo : Byte) : (hi ++ lo : Word16) = lo.setWidth 16 ^^^ hi.setWidth 16 <<< 8 := by
  refine BitVec.eq_of_getLsbD_eq fun i hi16 => ?_
  have happ : (hi ++ lo : Word16).getLsbD i = if i < 8 then lo.getLsbD i else hi.getLsbD (i - 8) :=
    BitVec.getLsbD_append
  rw [happ]
  by_cases h : i < 8
  · simp [h, hi16]
  · simp [h, hi16, BitVec.getLsbD_of_ge lo i (by omega)]

/-- A byte leaves `lo` at the top of the register exactly when the register held that byte and `lo`. -/
theorem checkByte_eq_top_iff (reg : Word16) (hi lo : Byte) :
    checkByte reg hi = lo.setWidth 16 <<< 8 ↔ reg = hi ++ lo := by
  rw [checkByte_eq_iterate, ← checkShift_iterate_low lo, (checkShift_injective.iterate 8).eq_iff,
    word_eq_xor, ← BitVec.xor_left_inj (hi.setWidth 16 <<< 8), BitVec.xor_assoc, BitVec.xor_self, BitVec.xor_zero]

/-- The Check carried on over two bytes more. -/
theorem checkOf_append_two (bytes : List Byte) (hi lo : Byte) :
    checkOf (bytes ++ [hi, lo]) = checkByte (checkByte (checkOf bytes) hi) lo := by
  simp [checkOf]

/-- Settles O6: the last byte leaves zero only when it is all that the first left, and that fixes the register before both. -/
theorem checkCarriedOnIsZero : Obligations.CheckCarriedOnIsZero := by
  refine ⟨fun bytes hi lo => ?_, by decide +kernel⟩
  rw [checkOf_append_two, checkByte_eq_zero_iff, checkByte_eq_top_iff]

end Sys2Proof.Machine
end

section
/-! Power-on reset, and the starts and ends of the sends of the two transmitters (R13, R27). -/

-- One proof after another: side by side, each waiting thread takes a stack of its own.
set_option Elab.async false

namespace Sys2Proof.Machine

/-! ## Power-on reset -/

/-- Settles O4: each item is read off `State.reset`. -/
theorem powerOnResetLeavesPowerOnValues : Obligations.PowerOnResetLeavesPowerOnValues := by
  intro s
  have hslot (i : SlotId) : ({ State.reset with pending := s.pending } : State).slot i = .free := by
    simp [State.slot, State.reset]
  have hfree : freeCount { State.reset with pending := s.pending } = 192 := by
    simp [freeCount, State.reset, List.filter_replicate, Slot.isFree]
  have hcontext (ch : Channel) :
      ({ State.reset with pending := s.pending } : State).context ch = Context.powerOn .closed := by
    simp [State.context, State.reset]
  have hqueue (q : QueueId) : State.reset.queues[q] = ⟨[], 48⟩ := by simp [State.reset]
  have hbank (l : BankId) : ({ State.reset with pending := s.pending } : State).bank l = Bank.empty := by
    cases l <;> rfl
  refine ⟨_, rfl, rfl, rfl, rfl, rfl, rfl, rfl, rfl, rfl, rfl, hslot, hfree, rfl, rfl, hcontext, rfl, rfl, rfl, hqueue,
    rfl, rfl, rfl, fun l => ?_, rfl, rfl, rfl, rfl, rfl, rfl, rfl, rfl⟩
  rw [hbank]
  refine ⟨rfl, fun i => ?_, fun n => ?_, fun m k => ?_⟩ <;>
    simp [Bank.empty, RuleEntry.empty, ChainDef.empty, identityMap, Config.maxBody, Verdict.empty]

/-! ## The two transmitters -/

/-- The idle field transmitter on an UP line takes the head of the Outbound FIFO. -/
theorem startFieldSend_taken {s : State} {n : Nat} {d : DownRecord} {rest : List DownRecord} (htx : s.fieldTx = .idle)
    (hm : s.fieldMonitor = .up n) (ho : s.outbound = d :: rest) :
    startFieldSend s =
      if (s.context d.channel).state = .closed then
        { s with
          outbound := rest
          counters := { s.counters with downClosed := s.counters.downClosed + 1#32 } }
      else
        { s with
          outbound := rest
          fieldTx := .sending (frameRecord d.bytes) 0
          contexts := s.contexts.set d.channel
            { s.context d.channel with downSent := (s.context d.channel).downSent + 1#32 } } := by
  simp [startFieldSend, htx, hm, ho, LineMonitor.isUp, count]

/-- The field transmitter takes nothing on a DOWN line, from an empty FIFO, or while it sends. -/
theorem startFieldSend_waits {s : State}
    (h : (∃ n, s.fieldMonitor = .down n) ∨ s.outbound = [] ∨ s.fieldTx ≠ .idle) : startFieldSend s = s := by
  unfold startFieldSend
  split
  · next d rest htx ho =>
    rcases h with ⟨n, hm⟩ | h | h
    · simp [hm, LineMonitor.isUp]
    · rw [ho] at h; cases h
    · exact absurd htx h
  · rfl

/-- Settles O15: the take of the head, the states in which it waits, and the bytes of the send. -/
theorem fieldTransmitterSendsByState : Obligations.FieldTransmitterSendsByState := by
  intro s h
  refine ⟨fun n d rest htx hm ho => ?_, fun hw => ?_, live_of_released _ h, fun d e => ⟨rfl, ?_⟩⟩
  · exact (live_of_released _ h).trans (congrArg _ (startFieldSend_taken htx hm ho))
  · exact (live_of_released _ h).trans (congrArg _ (startFieldSend_waits hw))
  · simp [frameRecord, DownRecord.bytes, bytes16]

/-- The free count as a count over the pool. -/
theorem freeCount_eq_countP (s : State) : freeCount s = s.slots.countP Slot.isFree := by
  simp [freeCount, ← List.countP_eq_length_filter]

/-- A slot that was not FREE and becomes FREE raises the free count by one (R19). -/
theorem freeCount_setSlot_free {s : State} {i : SlotId} (h : (s.slot i).isFree = false) :
    freeCount (s.setSlot i .free) = freeCount s + 1 := by
  have hget : s.slots[(i : Nat)].isFree = false := h
  rw [freeCount_eq_countP, freeCount_eq_countP, State.setSlot_slots, Vector.countP_set i.isLt, hget]
  rfl

/-- The end of a DATA_UP transmission frees its slot and counts SENT for the slot's queue (R27, R105). -/
theorem finishUplink_slot {s : State} {i : SlotId} {bytes : List Byte} {e : Nat} {r : UpRecord} {q : QueueId}
    {up : UpContents} (htx : s.uplinkTx = .sending (.slot i) bytes e) (hs : s.slot i = .sending r q up) :
    finishUplink s = { s.setSlot i .free with
      uplinkTx := .idle
      counters := { s.counters with sent := s.counters.sent.set q (s.counters.sent[q] + 1#32) } } := by
  have hs' : ({ s with uplinkTx := .idle } : State).slot i = .sending r q up := hs
  simp only [finishUplink, htx, finishSlot, hs']
  rfl

/-- Settles O17: a slot's completion, and that of a response, of a notice and of an idle transmitter. -/
theorem uplinkCompletionFreesTheSlot : Obligations.UplinkCompletionFreesTheSlot := by
  intro s bytes e h
  refine ⟨fun i r q up htx hs => ⟨_, live_of_released _ h, ?_, ?_⟩, fun htx => (live_of_released _ h).trans ?_⟩
  · rw [finishUplink_slot htx hs]
    rfl
  · rw [finishUplink_slot htx hs]
    exact freeCount_setSlot_free (by rw [hs]; rfl)
  · rcases htx with htx | htx | htx
    · simp [finishUplink, htx]
    · simp [finishUplink, htx]
    · have hself : ({ s with uplinkTx := .idle } : State) = s := by rw [← htx]
      rw [hself, finishUplink, htx]

end Sys2Proof.Machine
end

section
/-! The receivers in HUNT: the Fill Run, the start codes and the claim of a slot (R3, R6, R8, R21). -/

-- One proof after another: side by side, each waiting thread takes a stack of its own.
set_option Elab.async false

namespace Sys2Proof.Machine

/-! ## A receiver in HUNT (R3, R6) -/

/-- A start code is an F1h after an F0h on an UP line (R3). -/
theorem startsRecord_up (n : Nat) (last : Option Byte) (x : Byte) :
    startsRecord (.up n) last x = true ↔ x = 0xF1#8 ∧ last = some 0xF0#8 := by
  simp [startsRecord, LineMonitor.isUp, Config.startCode, Config.fillCode]

/-- On a DOWN line no byte is a start code (R3). -/
theorem startsRecord_down (run : Nat) (last : Option Byte) (x : Byte) : startsRecord (.down run) last x = false := rfl

/-- The Fill Run counts consecutive fills, and the 32nd brings the line UP (R6). -/
theorem LineMonitor.receive_down {run : Nat} (hrun : run ≤ 31) (x : Byte) :
    (LineMonitor.down run).receive x =
      if x ≠ 0xF0#8 then .down 0 else if run = 31 then .up 0 else .down (run + 1) := by
  have h31 : 32 ≤ run + 1 ↔ run = 31 := by omega
  by_cases hx : x = 0xF0#8 <;> simp [LineMonitor.receive, Config.fillCode, Config.lineUpFills, hx, h31]

/-- LINE_CHANGE is raised by the 32nd fill alone (R6). -/
theorem upNotices_down {run : Nat} (hrun : run ≤ 31) (link : Link) (x : Byte) :
    upNotices link (.down run) x = if x = 0xF0#8 ∧ run = 31 then [lineChange link true] else [] := by
  rw [upNotices, LineMonitor.comesUp, LineMonitor.receive_down hrun]
  by_cases hx : x = 0xF0#8 <;> by_cases h31 : run = 31 <;> simp [hx, h31, LineMonitor.isUp]

/-- In HUNT a byte starts a record or does nothing. -/
theorem fieldReceive_hunt {s : State} (hp : s.fieldRx.phase = .hunt) (m : LineMonitor) (last : Option Byte) (x : Byte) :
    fieldReceive m last x s = if startsRecord m last x then startFieldRecord s else s := by
  simp only [fieldReceive, hp]

/-- In HUNT a byte starts a record or does nothing. -/
theorem uplinkReceive_hunt {s : State} (hp : s.uplinkRx.phase = .hunt) (m : LineMonitor) (last : Option Byte) (x : Byte) :
    uplinkReceive m last x s = if startsRecord m last x then s.setUplinkPhase .classByte [] else s := by
  simp only [uplinkReceive, hp]

/-- The state in which the receiver takes a byte from an UP field line: the measurement restarts, and the byte is the last one
(R3, R7). -/
def State.heardField (s : State) (x : Byte) : State :=
  { s with fieldMonitor := .up 0, fieldRx := ⟨some x, s.fieldRx.phase⟩ }

/-- The state in which the receiver takes a byte from an UP uplink (R3, R7). -/
def State.heardUplink (s : State) (x : Byte) : State :=
  { s with uplinkMonitor := .up 0, uplinkRx := ⟨some x, s.uplinkRx.phase, s.uplinkRx.staging⟩ }

/-- A byte on an UP field line goes to the receiver, in whichever microsecond of the measurement it comes. -/
theorem exec_fieldByte_heard {s : State} {n : Nat} (h : s.resetHeld = false) (hm : s.fieldMonitor = .up n) (x : Byte) :
    exec (.byteReceived .field x) s = .next (fieldReceive (.up n) s.fieldRx.last x (s.heardField x)) :=
  exec_fieldByte_up h hm x

/-- A byte on an UP uplink goes to the receiver, in whichever microsecond of the measurement it comes. -/
theorem exec_uplinkByte_heard {s : State} {n : Nat} (h : s.resetHeld = false) (hm : s.uplinkMonitor = .up n) (x : Byte) :
    exec (.byteReceived .uplink x) s = .next (uplinkReceive (.up n) s.uplinkRx.last x (s.heardUplink x)) :=
  exec_uplinkByte_up h hm x

/-- A byte on a DOWN field line moves the last byte and the line monitor alone. -/
theorem exec_fieldByte_down {s : State} {run : Nat} (h : s.resetHeld = false) (hm : s.fieldMonitor = .down run)
    (hp : s.fieldRx.phase = .hunt) (x : Byte) :
    exec (.byteReceived .field x) s = .next (({ s with
      fieldMonitor := (LineMonitor.down run).receive x
      fieldRx := ⟨some x, .hunt⟩ } : State).raiseAll (upNotices .field (.down run) x)) := by
  refine (live_of_released _ h).trans ?_
  simp [receiveByte, fieldByte, hm, hp, fieldReceive_hunt, startsRecord_down]

/-- A byte on a DOWN uplink moves the last byte and the line monitor alone. -/
theorem exec_uplinkByte_down {s : State} {run : Nat} (h : s.resetHeld = false) (hm : s.uplinkMonitor = .down run)
    (hp : s.uplinkRx.phase = .hunt) (x : Byte) :
    exec (.byteReceived .uplink x) s = .next (({ s with
      uplinkMonitor := (LineMonitor.down run).receive x
      uplinkRx := { s.uplinkRx with last := some x } } : State).raiseAll (upNotices .uplink (.down run) x)) := by
  refine (live_of_released _ h).trans ?_
  simp [receiveByte, uplinkByte, hm, hp, uplinkReceive_hunt, startsRecord_down]

/-- Settles O7: the cases of the byte and of the Fill Run. -/
theorem fillsBringALineUp : Obligations.FillsBringALineUp := by
  intro s run x h hrun
  constructor <;> intro hm hp
  · rw [exec_fieldByte_down h hm hp, LineMonitor.receive_down hrun, upNotices_down hrun]
    by_cases hx : x = 0xF0#8 <;> by_cases h31 : run = 31 <;> simp [hx, h31]
    all_goals rfl
  · rw [exec_uplinkByte_down h hm hp, LineMonitor.receive_down hrun, upNotices_down hrun]
    by_cases hx : x = 0xF0#8 <;> by_cases h31 : run = 31 <;> simp [hx, h31]
    all_goals rfl

/-- Settles O8: whether the byte is a start code decides, on either link. -/
theorem huntTakesAStartCodeAfterAFill : Obligations.HuntTakesAStartCodeAfterAFill := by
  intro s n x h
  refine ⟨fun hm hp hx => ?_, fun hm hp hx => ?_, fun hm hp hl => ?_⟩
  · have hno : ¬ startsRecord (.up n) s.fieldRx.last x = true := by
      rw [startsRecord_up]; tauto
    rw [exec_fieldByte_heard h hm, fieldReceive_hunt (s := s.heardField x) hp, if_neg hno, State.heardField, hp]
  · have hno : ¬ startsRecord (.up n) s.uplinkRx.last x = true := by
      rw [startsRecord_up]; tauto
    rw [exec_uplinkByte_heard h hm, uplinkReceive_hunt (s := s.heardUplink x) hp, if_neg hno]
    rfl
  · have hyes : startsRecord (.up n) s.uplinkRx.last 0xF1#8 = true := (startsRecord_up ..).2 ⟨rfl, hl⟩
    rw [exec_uplinkByte_heard h hm, uplinkReceive_hunt (s := s.heardUplink _) hp, if_pos hyes]
    rfl

/-! ## A field start code (R8, R21, R22) -/

theorem startFieldRecord_claims {s : State} {i : SlotId} (h : lowestFree s.slots = some i) :
    startFieldRecord s =
      (s.setSlot i (.receiving ⟨s.timebase.count, [], []⟩)).setFieldPhase (.header (some i) 0) := by
  simp only [startFieldRecord, h]

theorem startFieldRecord_refused {s : State} (h : lowestFree s.slots = none) :
    startFieldRecord s = ({ s with
      fieldRx := { s.fieldRx with phase := .header none 0 }
      counters := { s.counters with poolDrop := s.counters.poolDrop + 1#32 } } : State).raise poolDropNotice := by
  simp only [startFieldRecord, h]
  rfl

/-- Settles O9: the byte is a start code, and the lowest FREE slot, or that there is none, decides. -/
theorem startCodeClaimsTheLowestFreeSlot : Obligations.StartCodeClaimsTheLowestFreeSlot := by
  intro s n h hm hrx
  have hstart : exec (.byteReceived .field 0xF1#8) s = .next (startFieldRecord (s.heardField 0xF1#8)) := by
    have hyes : startsRecord (.up n) s.fieldRx.last 0xF1#8 = true := (startsRecord_up ..).2 ⟨rfl, by rw [hrx]⟩
    rw [exec_fieldByte_heard h hm, fieldReceive_hunt (s := s.heardField _) (congrArg FieldReceiver.phase hrx), if_pos hyes]
  refine ⟨fun i hi hlow => ?_, fun hnone => ?_⟩
  · rw [hstart, startFieldRecord_claims (s := s.heardField _) (lowestFree_eq_some hi hlow)]
    rfl
  · rw [hstart, startFieldRecord_refused (s := s.heardField _) (lowestFree_eq_none hnone)]
    rfl

end Sys2Proof.Machine
end

section
/-! The receivers by phase, a Length above 248, and a line lost (R4, R5, R7). -/

-- One proof after another: side by side, each waiting thread takes a stack of its own.
set_option Elab.async false

namespace Sys2Proof.Machine

/-! ## The receivers by phase (R4) -/

theorem fieldReceive_header {s : State} {slot : Option SlotId} {got : Nat} (hp : s.fieldRx.phase = .header slot got)
    (hgot : got < 2) (m : LineMonitor) (last : Option Byte) (x : Byte) :
    fieldReceive m last x s =
      (storeFieldByte slot (fun r => { r with header := r.header ++ [x] }) s).setFieldPhase (.header slot (got + 1)) := by
  simp only [fieldReceive, hp, if_pos hgot]

theorem fieldReceive_length {s : State} {slot : Option SlotId} (hp : s.fieldRx.phase = .header slot 2) (m : LineMonitor)
    (last : Option Byte) (x : Byte) : fieldReceive m last x s = fieldLength slot x s := by
  simp [fieldReceive, hp]

theorem fieldReceive_body {s : State} {slot : Option SlotId} {left : Nat} (hp : s.fieldRx.phase = .body slot left)
    (m : LineMonitor) (last : Option Byte) (x : Byte) :
    fieldReceive m last x s =
      (storeFieldByte slot (fun r => { r with body := r.body ++ [x] }) s).setFieldPhase
        (if left ≤ 1 then .check slot none else .body slot (left - 1)) := by
  simp only [fieldReceive, hp]

theorem fieldReceive_firstCheck {s : State} {slot : Option SlotId} (hp : s.fieldRx.phase = .check slot none)
    (m : LineMonitor) (last : Option Byte) (x : Byte) :
    fieldReceive m last x s = s.setFieldPhase (.check slot (some x)) := by
  simp only [fieldReceive, hp]

theorem fieldReceive_lastCheck {s : State} {slot : Option SlotId} {hi : Byte}
    (hp : s.fieldRx.phase = .check slot (some hi)) (m : LineMonitor) (last : Option Byte) (x : Byte) :
    fieldReceive m last x s = (completeFieldRecord slot hi x s).setFieldPhase .hunt := by
  simp only [fieldReceive, hp]

theorem uplinkReceive_class {s : State} (hp : s.uplinkRx.phase = .classByte) (m : LineMonitor) (last : Option Byte)
    (x : Byte) : uplinkReceive m last x s = judgeClass x s := by
  simp only [uplinkReceive, hp]

theorem uplinkReceive_header {s : State} {c : RecordClass} {got : Nat} (hp : s.uplinkRx.phase = .header c got)
    (hgot : got + 1 < c.headerLength) (m : LineMonitor) (last : Option Byte) (x : Byte) :
    uplinkReceive m last x s = s.setUplinkPhase (.header c (got + 1)) (stage c s.uplinkRx.staging x) := by
  simp only [uplinkReceive, hp, if_pos hgot]

theorem uplinkReceive_headerEnd {s : State} {c : RecordClass} {got : Nat} (hp : s.uplinkRx.phase = .header c got)
    (hgot : got + 1 = c.headerLength) (m : LineMonitor) (last : Option Byte) (x : Byte) :
    uplinkReceive m last x s = uplinkHeaderEnd c x s := by
  simp [uplinkReceive, hp, hgot]

theorem uplinkReceive_body {s : State} {c : RecordClass} {left : Nat} (hp : s.uplinkRx.phase = .body c left)
    (m : LineMonitor) (last : Option Byte) (x : Byte) :
    uplinkReceive m last x s =
      s.setUplinkPhase (if left ≤ 1 then .check c none else .body c (left - 1)) (stage c s.uplinkRx.staging x) := by
  simp only [uplinkReceive, hp]

theorem uplinkReceive_firstCheck {s : State} {c : RecordClass} (hp : s.uplinkRx.phase = .check c none)
    (m : LineMonitor) (last : Option Byte) (x : Byte) :
    uplinkReceive m last x s = s.setUplinkPhase (.check c (some x)) s.uplinkRx.staging := by
  simp only [uplinkReceive, hp]

theorem uplinkReceive_lastCheck {s : State} {c : RecordClass} {hi : Byte} (hp : s.uplinkRx.phase = .check c (some hi))
    (m : LineMonitor) (last : Option Byte) (x : Byte) :
    uplinkReceive m last x s = (completeUplinkRecord c s.uplinkRx.staging hi x s).setUplinkPhase .hunt [] := by
  simp only [uplinkReceive, hp]

/-! ## A Length above 248 (R4) -/

theorem fieldLength_long {x : Byte} (hx : 248 < x.toNat) (slot : Option SlotId) (s : State) :
    fieldLength slot x s = ((releaseFieldSlot slot s).fieldFormatError).setFieldPhase .hunt :=
  if_pos hx

theorem uplinkHeaderEnd_long {x : Byte} (hx : 248 < x.toNat) {c : RecordClass} (hc : c ≠ .notice) (s : State) :
    uplinkHeaderEnd c x s = (s.setUplinkPhase .hunt []).uplinkFormatError := by
  rw [uplinkHeaderEnd, if_neg hc, if_pos (show Config.maxBody < x.toNat from hx)]

/-- Settles O11: the byte is the last of the header on either link, and a Length too long. -/
theorem lengthAbove248IsAFormatError : Obligations.LengthAbove248IsAFormatError := by
  intro s n x h hx
  refine ⟨fun hm => ⟨fun i hp => ?_, fun hp => ?_⟩, fun hm cls got hp hcls => ?_⟩
  · rw [exec_fieldByte_heard h hm, fieldReceive_length (s := s.heardField x) hp, fieldLength_long hx]
    rfl
  · rw [exec_fieldByte_heard h hm, fieldReceive_length (s := s.heardField x) hp, fieldLength_long hx]
    rfl
  · have hend : got + 1 = cls.headerLength ∧ cls ≠ .notice := by
      simp only [List.mem_cons, Prod.mk.injEq, List.not_mem_nil, or_false] at hcls
      rcases hcls with ⟨rfl, rfl⟩ | ⟨rfl, rfl⟩ | ⟨rfl, rfl⟩ | ⟨rfl, rfl⟩ <;> exact ⟨rfl, by decide⟩
    rw [exec_uplinkByte_heard h hm, uplinkReceive_headerEnd (s := s.heardUplink x) hp hend.1,
      uplinkHeaderEnd_long hx hend.2]
    rfl

/-! ## A line lost (R5, R7) -/

/-- A field line lost: the monitor, the receiver, then LINE_CHANGE. -/
theorem exec_loseField_expired {s : State} {n : Nat} (h : s.resetHeld = false) (hm : s.fieldMonitor = .up n)
    (hn : 1000 ≤ n) :
    exec (.lineDown .field) s = .next ((abortField { s with fieldMonitor := .down 0 }).raise (lineChange .field false)) :=
  (live_of_released _ h).trans (congrArg _ (if_pos ((LineMonitor.expired_iff _).2 ⟨n, hm, hn⟩)))

/-- An uplink lost: the monitor, the receiver, then LINE_CHANGE. -/
theorem exec_loseUplink_expired {s : State} {n : Nat} (h : s.resetHeld = false) (hm : s.uplinkMonitor = .up n)
    (hn : 1000 ≤ n) :
    exec (.lineDown .uplink) s =
      .next ((abortUplink { s with uplinkMonitor := .down 0 }).raise (lineChange .uplink false)) :=
  (live_of_released _ h).trans (congrArg _ (if_pos ((LineMonitor.expired_iff _).2 ⟨n, hm, hn⟩)))

/-- Before the expiry a field line is not lost. -/
theorem exec_loseField_early {s : State} (h : s.resetHeld = false) (hm : ∀ n, s.fieldMonitor = .up n → n < 1000) :
    exec (.lineDown .field) s = .next s := by
  refine (live_of_released _ h).trans ?_
  simp [loseLine, LineMonitor.expired_eq_false hm]

/-- Before the expiry an uplink is not lost. -/
theorem exec_loseUplink_early {s : State} (h : s.resetHeld = false) (hm : ∀ n, s.uplinkMonitor = .up n → n < 1000) :
    exec (.lineDown .uplink) s = .next s := by
  refine (live_of_released _ h).trans ?_
  simp [loseLine, LineMonitor.expired_eq_false hm]

/-- A receiver in HUNT stays there at a line loss. -/
theorem abortField_hunt {s : State} (hp : s.fieldRx.phase = .hunt) : abortField s = s := by
  simp [abortField, hp, FieldPhase.reception]

/-- A receiver inside a record counts LINE_ABORT, releases its slot and returns to HUNT. -/
theorem abortField_receiving {s : State} {slot : Option SlotId} (hp : s.fieldRx.phase.reception = some slot) :
    abortField s = { releaseFieldSlot slot s with
      fieldRx := ⟨s.fieldRx.last, .hunt⟩
      counters := { s.counters with fieldLineAbort := s.counters.fieldLineAbort + 1#32 } } := by
  simp only [abortField, hp]
  cases slot <;> rfl

/-- A byte on an UP field line restarts the measurement. -/
theorem fieldReceive_heard_fieldMonitor (s : State) (m : LineMonitor) (last : Option Byte) (x : Byte) :
    (fieldReceive m last x (s.heardField x)).fieldMonitor = .up 0 := by
  rw [fieldReceive_frame]
  rfl

theorem fieldReceive_resetHeld (s : State) (m : LineMonitor) (last : Option Byte) (x : Byte) :
    (fieldReceive m last x s).resetHeld = s.resetHeld := by
  rw [fieldReceive_frame]

/-- A byte on an UP uplink restarts the measurement. -/
theorem uplinkReceive_heard_uplinkMonitor (s : State) (m : LineMonitor) (last : Option Byte) (x : Byte) :
    (uplinkReceive m last x (s.heardUplink x)).uplinkMonitor = .up 0 := by
  rw [uplinkReceive_frame]
  rfl

theorem uplinkReceive_resetHeld (s : State) (m : LineMonitor) (last : Option Byte) (x : Byte) :
    (uplinkReceive m last x s).resetHeld = s.resetHeld := by
  rw [uplinkReceive_frame]

/-- A line that is DOWN, or heard of within 1000 µs, has not expired (R7). -/
theorem LineMonitor.early {m : LineMonitor} {n : Nat} (h : (m = .up n ∧ n < 1000) ∨ m = .down n) :
    ∀ k, m = .up k → k < 1000 := by
  rintro k rfl
  rcases h with ⟨h, hn⟩ | h
  · cases h
    exact hn
  · cases h

/-- Settles O14: an expired line by the receiver's phase, a byte that restarts the measurement, and a line that has not
expired. -/
theorem lineLossAbandonsTheRecord : Obligations.LineLossAbandonsTheRecord := by
  intro s n h
  refine ⟨fun hm hn => ⟨fun hp => ?_, fun i k f hp => ?_, fun k f hp => ?_⟩, fun hm hn => ⟨fun hp => ?_, fun hp => ?_⟩,
    fun x t hm ht => ?_, fun x t hm ht => ?_, fun hm => exec_loseField_early h (LineMonitor.early hm),
    fun hm => exec_loseUplink_early h (LineMonitor.early hm)⟩
  · rw [exec_loseField_expired h hm hn, abortField_hunt (by exact hp)]
    rfl
  · have hr : s.fieldRx.phase.reception = some (some i) := by rcases hp with hp | hp | hp <;> rw [hp] <;> rfl
    rw [exec_loseField_expired h hm hn, abortField_receiving (by exact hr)]
    rfl
  · have hr : s.fieldRx.phase.reception = some none := by rcases hp with hp | hp | hp <;> rw [hp] <;> rfl
    rw [exec_loseField_expired h hm hn, abortField_receiving (by exact hr)]
    rfl
  · rw [exec_loseUplink_expired h hm hn, abortUplink, if_pos (by exact hp)]
    rfl
  · rw [exec_loseUplink_expired h hm hn, abortUplink, if_neg (by exact hp)]
    rfl
  · rw [exec_fieldByte_heard h hm, Host.Outcome.next.injEq] at ht
    have hup : t.fieldMonitor = .up 0 := by rw [← ht, fieldReceive_heard_fieldMonitor]
    have hheld : t.resetHeld = false := by rw [← ht, fieldReceive_resetHeld]; exact h
    exact ⟨hup, exec_loseField_early hheld (LineMonitor.early (.inl ⟨hup, by omega⟩))⟩
  · rw [exec_uplinkByte_heard h hm, Host.Outcome.next.injEq] at ht
    have hup : t.uplinkMonitor = .up 0 := by rw [← ht, uplinkReceive_heard_uplinkMonitor]
    have hheld : t.resetHeld = false := by rw [← ht, uplinkReceive_resetHeld]; exact h
    exact ⟨hup, exec_loseUplink_early hheld (LineMonitor.early (.inl ⟨hup, by omega⟩))⟩

end Sys2Proof.Machine
end

section
/-! What a step does while no command waits (log entry 5). -/

-- One proof after another: side by side, each waiting thread takes a stack of its own.
set_option Elab.async false

namespace Sys2Proof.Machine

/-! ## An empty queue (log entry 5) -/

/-- With no command waiting, RESET released and no line to lose, one microsecond passes. -/
theorem step_microsecond {s : State} (hq : s.pending = []) (h : s.resetHeld = false)
    (hf : ∀ n, s.fieldMonitor = .up n → n < 1000) (hu : ∀ n, s.uplinkMonitor = .up n → n < 1000) :
    step s = .next (microsecond s) := by
  have hlost : lostLine s = none := by
    simp [lostLine, LineMonitor.expired_eq_false hf, LineMonitor.expired_eq_false hu]
  simp [step, hq, idle, h, hlost]

/-- With no command waiting and RESET released, a line whose silence timer has expired is lost as by LINE_DOWN. -/
theorem step_lostLine {s : State} {link : Link} (hq : s.pending = []) (h : s.resetHeld = false)
    (hlost : lostLine s = some link) : step s = exec (.lineDown link) s := by
  have hidle : step s = .next (loseLine link s) := by simp [step, hq, idle, h, hlost]
  exact hidle.trans (live_of_released _ h).symm

theorem FieldTransmitter.ends_iff (tx : FieldTransmitter) :
    tx.ends = true ↔ ∃ bytes e, tx = .sending bytes e ∧ bytes.length + 1 ≤ e + 1 := by
  cases tx <;> simp [FieldTransmitter.ends]

theorem UplinkTransmitter.ends_iff (tx : UplinkTransmitter) :
    tx.ends = true ↔ ∃ g bytes e, tx = .sending g bytes e ∧ bytes.length + 1 ≤ e + 1 := by
  cases tx <;> simp [UplinkTransmitter.ends]

/-- The completion of COPY BANK falls due after 300 µs (R137). -/
theorem Engine.copyBankComplete_mem_due (e : Engine) :
    .copyBankComplete ∈ e.due ↔ ∃ r n, e = .copying r n ∧ 300 ≤ n + 1 := by
  cases e <;> simp [Engine.due, Config.longOperationMicros]

/-- The completion of CLEAR STAGING falls due after 300 µs (R137). -/
theorem Engine.clearStagingComplete_mem_due (e : Engine) :
    .clearStagingComplete ∈ e.due ↔ ∃ r n, e = .clearing r n ∧ 300 ≤ n + 1 := by
  cases e <;> simp [Engine.due, Config.longOperationMicros]

/-- The engine brings at most one command, the completion of its long operation (R137). -/
theorem Engine.due_cases (e : Engine) :
    e.due = [] ∨ e.due = [.copyBankComplete] ∨ e.due = [.clearStagingComplete] := by
  cases e with
  | copying r n => simp only [Engine.due]; split <;> simp
  | clearing r n => simp only [Engine.due]; split <;> simp
  | idle => exact .inl rfl
  | modifying r l left => exact .inl rfl
  | acking r left => exact .inl rfl

/-- The commands that a microsecond may bring. -/
theorem dueEvents_subset (s : State) :
    ∀ c ∈ dueEvents s, c ∈ [Instr.millisecondTick, .fieldTransmitEnd, .uplinkTransmitComplete, .copyBankComplete,
      .clearStagingComplete] := by
  intro c hc
  rcases s.engine.due_cases with hd | hd | hd <;> simp [dueEvents, hd] at hc ⊢ <;> tauto

/-- A microsecond brings each command at most once. -/
theorem dueEvents_nodup (s : State) : (dueEvents s).Nodup := by
  unfold dueEvents
  rcases s.engine.due_cases with hd | hd | hd <;> rw [hd] <;> split_ifs <;> decide

theorem millisecondTick_mem_dueEvents (s : State) : .millisecondTick ∈ dueEvents s ↔ 1000 ≤ s.timebase.divider + 1 := by
  rcases s.engine.due_cases with hd | hd | hd <;> simp [dueEvents, hd, Config.tickMicros]

theorem fieldTransmitEnd_mem_dueEvents (s : State) : .fieldTransmitEnd ∈ dueEvents s ↔ s.fieldTx.ends = true := by
  rcases s.engine.due_cases with hd | hd | hd <;> simp [dueEvents, hd]

theorem uplinkTransmitComplete_mem_dueEvents (s : State) :
    .uplinkTransmitComplete ∈ dueEvents s ↔ s.uplinkTx.ends = true := by
  rcases s.engine.due_cases with hd | hd | hd <;> simp [dueEvents, hd]

theorem copyBankComplete_mem_dueEvents (s : State) : .copyBankComplete ∈ dueEvents s ↔ .copyBankComplete ∈ s.engine.due := by
  simp [dueEvents]

theorem clearStagingComplete_mem_dueEvents (s : State) :
    .clearStagingComplete ∈ dueEvents s ↔ .clearStagingComplete ∈ s.engine.due := by
  simp [dueEvents]

/-- The divider rises by one, and from 999 returns to 0 (R17). -/
theorem Timebase.advance_divider (b : Timebase) :
    b.advance.divider = if 1000 ≤ b.divider + 1 then 0 else b.divider + 1 := rfl

/-- Only a long operation counts the microsecond (R137). -/
theorem Engine.elapse_of_short {e : Engine} (h : ∀ r n, e ≠ .copying r n ∧ e ≠ .clearing r n) : e.elapse = e := by
  cases e with
  | copying r n => exact absurd rfl (h r n).1
  | clearing r n => exact absurd rfl (h r n).2
  | idle => rfl
  | modifying _ _ _ => rfl
  | acking _ _ => rfl

/-- Settles O3: the lost line first, then each item and each command of the microsecond by its own lemma. -/
theorem anEmptyQueuePassesAMicrosecond : Obligations.AnEmptyQueuePassesAMicrosecond := by
  intro s hq
  refine ⟨fun h => by simp [step, hq, idle, h], fun h n hm hn => step_lostLine hq h ?_,
    fun h hf n hm hn => step_lostLine hq h ?_, fun h hf hu => ⟨_, step_microsecond hq h hf hu, rfl, rfl, ?_⟩⟩
  · simp [lostLine, (LineMonitor.expired_iff _).2 ⟨n, hm, hn⟩]
  · simp [lostLine, LineMonitor.expired_eq_false hf, (LineMonitor.expired_iff _).2 ⟨n, hm, hn⟩]
  have hpend : (microsecond s).pending = dueEvents s := by simp [microsecond, hq]
  rw [hpend, millisecondTick_mem_dueEvents, fieldTransmitEnd_mem_dueEvents, uplinkTransmitComplete_mem_dueEvents,
    copyBankComplete_mem_dueEvents, clearStagingComplete_mem_dueEvents, FieldTransmitter.ends_iff,
    UplinkTransmitter.ends_iff, Engine.copyBankComplete_mem_due, Engine.clearStagingComplete_mem_due]
  have hdivider := s.timebase.advance_divider
  refine ⟨fun hd => ?_, fun hd => ?_, fun n hm => congrArg LineMonitor.elapse hm, fun n hm => congrArg LineMonitor.elapse hm,
    fun n hm => congrArg LineMonitor.elapse hm, fun n hm => congrArg LineMonitor.elapse hm,
    fun bytes e hx => congrArg FieldTransmitter.elapse hx, congrArg FieldTransmitter.elapse, Iff.rfl,
    fun g bytes e hx => congrArg UplinkTransmitter.elapse hx, congrArg UplinkTransmitter.elapse, Iff.rfl,
    fun r e he => congrArg Engine.elapse he, fun r e he => congrArg Engine.elapse he, Engine.elapse_of_short,
    Iff.rfl, Iff.rfl, dueEvents_nodup s, dueEvents_subset s⟩
  · have : ¬ 1000 ≤ s.timebase.divider + 1 := by omega
    simp [microsecond, hdivider, this]
  · simp [microsecond, hdivider, hd]

end Sys2Proof.Machine
end

section
/-! A field record received whole: each byte moves the reception to its next stage, by induction on the body (R4, R8, R9). -/

-- One proof after another: side by side, each waiting thread takes a stack of its own.
set_option Elab.async false

namespace Sys2Proof.Machine

/-! ## Commands one after the other -/

theorem execAll_cons {c : Instr} {s t : State} (h : exec c s = .next t) (cs : List Instr) :
    execAll (c :: cs) s = execAll cs t := by
  simp only [execAll, h]

theorem received_cons (link : Link) (x : Byte) (xs : List Byte) :
    received link (x :: xs) = .byteReceived link x :: received link xs := rfl

/-! ## A field record received byte by byte (R4, R8) -/

/-- A slot written, when the record has one. -/
def State.writeSlot (s : State) (slot : Option SlotId) (x : Slot) : State :=
  match slot with
  | none => s
  | some i => s.setSlot i x

/-- `s` with a field reception at a stage of its own: `x` the last byte, `p` the receiver's phase, and `r` the record so far, in
its slot when it has one. -/
def State.fieldAt (s : State) (slot : Option SlotId) (r : PartialRecord) (x : Byte) (p : FieldPhase) : State :=
  { s.writeSlot slot (.receiving r) with fieldMonitor := .up 0, fieldRx := ⟨some x, p⟩ }

/-- The phase with `n` body bytes to come. -/
def FieldPhase.bodyLeft (slot : Option SlotId) (n : Nat) : FieldPhase := if n = 0 then .check slot none else .body slot n

/-- A reception in progress is a stage of itself. -/
theorem heardField_eq_fieldAt {s : State} {slot : Option SlotId} {r : PartialRecord}
    (hr : ∀ i, slot = some i → s.slot i = .receiving r) (x : Byte) :
    s.heardField x = s.fieldAt slot r x s.fieldRx.phase := by
  cases slot with
  | none => rfl
  | some i =>
    have hself : s.setSlot i (.receiving r) = s := by
      rw [State.setSlot, ← hr i rfl, State.slot, Fin.getElem_fin, Vector.set_getElem_self]
    rw [State.fieldAt, State.writeSlot, hself]
    rfl

section

variable (s : State) (slot : Option SlotId) (r : PartialRecord) (x y : Byte)

/-- A byte of the record is written into its slot, and into none for a skipped record (R8). -/
theorem storeFieldByte_fieldAt (write : PartialRecord → PartialRecord) (p q : FieldPhase) :
    (storeFieldByte slot write (s.fieldAt slot r x p)).setFieldPhase q = s.fieldAt slot (write r) x q := by
  cases slot with
  | none => rfl
  | some i =>
    have hslot : (s.fieldAt (some i) r x p).slot i = .receiving r := s.slot_setSlot_self i _
    simp only [storeFieldByte, hslot]
    simp [State.fieldAt, State.writeSlot, State.setSlot, State.setFieldPhase]

/-- The next byte goes to the receiver. -/
theorem exec_fieldByte_fieldAt (h : s.resetHeld = false) (p : FieldPhase) :
    exec (.byteReceived .field y) (s.fieldAt slot r x p) =
      .next (fieldReceive (.up 0) (some x) y (s.fieldAt slot r y p)) := by
  cases slot with
  | none => exact exec_fieldByte_heard (s := s.fieldAt none r x p) h rfl y
  | some i =>
    rw [exec_fieldByte_heard (s := s.fieldAt (some i) r x p) h rfl y]
    rfl

variable (m : LineMonitor) (last : Option Byte)

theorem fieldReceive_fieldAt_header {got : Nat} (hgot : got < 2) :
    fieldReceive m last y (s.fieldAt slot r y (.header slot got)) =
      s.fieldAt slot { r with header := r.header ++ [y] } y (.header slot (got + 1)) := by
  rw [fieldReceive_header rfl hgot, storeFieldByte_fieldAt]

theorem fieldReceive_fieldAt_length (hy : y.toNat ≤ 248) :
    fieldReceive m last y (s.fieldAt slot r y (.header slot 2)) =
      s.fieldAt slot { r with header := r.header ++ [y] } y (.bodyLeft slot y.toNat) := by
  rw [fieldReceive_length rfl, fieldLength, if_neg (show ¬ Config.maxBody < y.toNat from Nat.not_lt.2 hy),
    storeFieldByte_fieldAt]
  rfl

theorem fieldReceive_fieldAt_body (left : Nat) :
    fieldReceive m last y (s.fieldAt slot r y (.bodyLeft slot (left + 1))) =
      s.fieldAt slot { r with body := r.body ++ [y] } y (.bodyLeft slot left) := by
  rw [fieldReceive_body rfl, storeFieldByte_fieldAt]
  cases left <;> rfl

theorem fieldReceive_fieldAt_firstCheck :
    fieldReceive m last y (s.fieldAt slot r y (.bodyLeft slot 0)) = s.fieldAt slot r y (.check slot (some y)) := by
  rw [fieldReceive_firstCheck rfl]
  rfl

theorem fieldReceive_fieldAt_lastCheck (hi : Byte) :
    fieldReceive m last y (s.fieldAt slot r y (.check slot (some hi))) =
      (completeFieldRecord slot hi y (s.fieldAt slot r y (.check slot (some hi)))).setFieldPhase .hunt :=
  fieldReceive_lastCheck rfl m last y

end

/-- The body bytes and the first Check byte are received, whatever follows. -/
theorem execAll_fieldBody {s : State} (h : s.resetHeld = false) (slot : Option SlotId) (hi : Byte) (cs : List Instr)
    (body : List Byte) : ∀ (r : PartialRecord) (x : Byte),
    execAll (received .field body ++ .byteReceived .field hi :: cs) (s.fieldAt slot r x (.bodyLeft slot body.length)) =
      execAll cs (s.fieldAt slot { r with body := r.body ++ body } hi (.check slot (some hi))) := by
  induction body with
  | nil =>
    intro r x
    rw [List.append_nil]
    refine execAll_cons ?_ cs
    rw [List.length_nil, exec_fieldByte_fieldAt s slot r x hi h, fieldReceive_fieldAt_firstCheck]
  | cons y body ih =>
    intro r x
    have hexec := exec_fieldByte_fieldAt s slot r x y h (.bodyLeft slot (body.length + 1))
    rw [fieldReceive_fieldAt_body] at hexec
    rw [received_cons, List.cons_append, List.length_cons, execAll_cons hexec, ih, List.append_assoc, List.singleton_append]

/-- A field record from the byte after its start code to its last Check byte: its bytes stand in its slot, when it has one, as
it is judged (R8, R9). -/
theorem execAll_fieldRecord {s : State} {n : Nat} {slot : Option SlotId} {stamp : Word32} (h : s.resetHeld = false)
    (hm : s.fieldMonitor = .up n) (hp : s.fieldRx.phase = .header slot 0)
    (hr : ∀ i, slot = some i → s.slot i = .receiving ⟨stamp, [], []⟩) (c k hi lo : Byte) {body : List Byte}
    (hlen : body.length ≤ 248) :
    execAll (received .field (c :: k :: BitVec.ofNat 8 body.length :: body ++ [hi, lo])) s =
      .next ((completeFieldRecord slot hi lo (s.fieldAt slot ⟨stamp, [c, k, BitVec.ofNat 8 body.length], body⟩ lo
        (.check slot (some hi)))).setFieldPhase .hunt) := by
  have hbyte : (BitVec.ofNat 8 body.length).toNat = body.length := by rw [BitVec.toNat_ofNat]; omega
  have hchannel : exec (.byteReceived .field c) s = .next (s.fieldAt slot ⟨stamp, [c], []⟩ c (.header slot 1)) := by
    rw [exec_fieldByte_heard h hm, heardField_eq_fieldAt hr, hp, fieldReceive_fieldAt_header (hgot := by decide)]
    rfl
  have hkind := exec_fieldByte_fieldAt s slot ⟨stamp, [c], []⟩ c k h (.header slot 1)
  rw [fieldReceive_fieldAt_header (hgot := by decide)] at hkind
  have hlength := exec_fieldByte_fieldAt s slot ⟨stamp, [c, k], []⟩ k (BitVec.ofNat 8 body.length) h (.header slot 2)
  rw [fieldReceive_fieldAt_length (hy := by omega), hbyte] at hlength
  have hbody := execAll_fieldBody h slot hi [.byteReceived .field lo] body
    ⟨stamp, [c, k, BitVec.ofNat 8 body.length], []⟩ (BitVec.ofNat 8 body.length)
  have hlast := exec_fieldByte_fieldAt s slot ⟨stamp, [c, k, BitVec.ofNat 8 body.length], body⟩ hi lo h
    (.check slot (some hi))
  rw [fieldReceive_fieldAt_lastCheck] at hlast
  have hbytes : received .field (c :: k :: BitVec.ofNat 8 body.length :: body ++ [hi, lo]) =
      .byteReceived .field c :: .byteReceived .field k :: .byteReceived .field (BitVec.ofNat 8 body.length)
        :: (received .field body ++ [.byteReceived .field hi, .byteReceived .field lo]) := by
    simp [received]
  rw [hbytes, execAll_cons hchannel, execAll_cons hkind]
  exact (execAll_cons hlength _).trans (hbody.trans (execAll_cons hlast []))

/-- A good Check and a Channel below 128: the record is admitted (R9). -/
theorem judgeFieldRecord_good {stamp : Word32} {c k len hi lo : Byte} {body : List Byte}
    (hcheck : checkOf (c :: k :: len :: body) = hi ++ lo) (hc : c.toNat < 128) (i : SlotId) (s : State) :
    judgeFieldRecord i ⟨stamp, [c, k, len], body⟩ hi lo s = admitFieldRecord i ⟨stamp, ⟨c.toNat, hc⟩, k, body⟩ s := by
  have hgood : checkGood ([c, k, len] ++ body) hi lo = true := beq_iff_eq.2 hcheck
  have hindex : indexOf Config.channels ([c, k, len].getD 0 0#8) = some ⟨c.toNat, hc⟩ := indexOf_eq_some hc
  simp only [judgeFieldRecord, hgood, hindex]
  rfl

/-- A good Check and a Channel of 128 or above: FORMAT_ERR (R9). -/
theorem judgeFieldRecord_badChannel {stamp : Word32} {c k len hi lo : Byte} {body : List Byte}
    (hcheck : checkOf (c :: k :: len :: body) = hi ++ lo) (hc : ¬ c.toNat < 128) (i : SlotId) (s : State) :
    judgeFieldRecord i ⟨stamp, [c, k, len], body⟩ hi lo s = (s.setSlot i .free).fieldFormatError := by
  have hgood : checkGood ([c, k, len] ++ body) hi lo = true := beq_iff_eq.2 hcheck
  have hindex : indexOf Config.channels ([c, k, len].getD 0 0#8) = none := indexOf_eq_none (Nat.not_lt.1 hc)
  simp only [judgeFieldRecord, hgood, hindex]
  rfl

/-- A bad Check: CHECK_ERR, whatever the Channel (R9). -/
theorem judgeFieldRecord_badCheck {stamp : Word32} {c k len hi lo : Byte} {body : List Byte}
    (hcheck : checkOf (c :: k :: len :: body) ≠ hi ++ lo) (i : SlotId) (s : State) :
    judgeFieldRecord i ⟨stamp, [c, k, len], body⟩ hi lo s = (s.setSlot i .free).fieldCheckError :=
  if_neg fun hgood => hcheck (beq_iff_eq.1 hgood)

/-- The record that stands in its slot is judged. -/
theorem completeFieldRecord_fieldAt (s : State) (i : SlotId) (r : PartialRecord) (hi lo x : Byte) (p : FieldPhase) :
    completeFieldRecord (some i) hi lo (s.fieldAt (some i) r x p) =
      judgeFieldRecord i r hi lo (s.fieldAt (some i) r x p) := by
  have hslot : (s.fieldAt (some i) r x p).slot i = .receiving r := s.slot_setSlot_self i _
  simp only [completeFieldRecord, hslot]

/-- A slot written at the end of a reception takes the place of the record so far. -/
theorem State.fieldAt_slots_set (s : State) (i : SlotId) (r : PartialRecord) (x : Byte) (p : FieldPhase) (y : Slot) :
    (s.fieldAt (some i) r x p).slots.set i y = s.slots.set i y :=
  Vector.set_set ..

/-- Settles O10: the bytes are received into the slot, and the Check and the Channel decide; a skipped record passes. -/
theorem fieldRecordJudgedAtItsEnd : Obligations.FieldRecordJudgedAtItsEnd := by
  intro s n c k hi lo body h hm hlen
  refine ⟨fun i stamp hp hs => ?_, fun hp => ?_⟩
  · have hr (j : SlotId) (hj : some i = some j) : s.slot j = .receiving ⟨stamp, [], []⟩ := by
      cases hj; exact hs
    refine (execAll_fieldRecord h hm hp hr c k hi lo hlen).trans (congrArg _ ?_)
    rw [completeFieldRecord_fieldAt]
    by_cases hcheck : checkOf (c :: k :: BitVec.ofNat 8 body.length :: body) = hi ++ lo
    · rw [if_pos hcheck]
      by_cases hc : c.toNat < 128
      · rw [dif_pos hc, judgeFieldRecord_good hcheck hc, admitFieldRecord, State.fieldAt_slots_set]
        rfl
      · rw [dif_neg hc, judgeFieldRecord_badChannel hcheck hc, State.setSlot, State.fieldAt_slots_set]
        rfl
    · rw [if_neg hcheck, judgeFieldRecord_badCheck hcheck, State.setSlot, State.fieldAt_slots_set]
      rfl
  · exact execAll_fieldRecord (stamp := 0#32) h hm hp (fun i hi => nomatch hi) c k hi lo hlen

end Sys2Proof.Machine
end

section
/-! An uplink record received whole: the header and the body by induction, then its judgement (R4, R11, R12). -/

-- One proof after another: side by side, each waiting thread takes a stack of its own.
set_option Elab.async false

namespace Sys2Proof.Machine

/-! ## An uplink record received byte by byte (R4, R11) -/

/-- `s` with an uplink reception at a stage of its own: `x` the last byte, `p` the receiver's phase, `staging` what is kept. -/
def State.uplinkAt (s : State) (x : Byte) (p : UplinkPhase) (staging : List Byte) : State :=
  { s with uplinkMonitor := .up 0, uplinkRx := ⟨some x, p, staging⟩ }

/-- The phase with `n` body bytes to come. -/
def UplinkPhase.bodyLeft (c : RecordClass) (n : Nat) : UplinkPhase := if n = 0 then .check c none else .body c n

/-- The bytes of a record the host sends are kept, those of another are not (R11). -/
theorem foldl_stage (c : RecordClass) (xs : List Byte) :
    ∀ staging, xs.foldl (stage c) staging = if c.stored then staging ++ xs else staging := by
  induction xs with
  | nil => simp
  | cons x xs ih =>
    intro staging
    rw [List.foldl_cons, ih, stage]
    cases c.stored <;> simp

section

variable (s : State) (c : RecordClass) (x y : Byte) (staging : List Byte)

/-- The next byte goes to the receiver. -/
theorem exec_uplinkByte_uplinkAt (h : s.resetHeld = false) (p : UplinkPhase) :
    exec (.byteReceived .uplink y) (s.uplinkAt x p staging) =
      .next (uplinkReceive (.up 0) (some x) y (s.uplinkAt y p staging)) :=
  exec_uplinkByte_heard (s := s.uplinkAt x p staging) h rfl y

variable (m : LineMonitor) (last : Option Byte)

theorem uplinkReceive_uplinkAt_header {got : Nat} (hgot : got + 1 < c.headerLength) :
    uplinkReceive m last y (s.uplinkAt y (.header c got) staging) =
      s.uplinkAt y (.header c (got + 1)) (stage c staging y) :=
  uplinkReceive_header rfl hgot m last y

theorem uplinkReceive_uplinkAt_body (left : Nat) :
    uplinkReceive m last y (s.uplinkAt y (.bodyLeft c (left + 1)) staging) =
      s.uplinkAt y (.bodyLeft c left) (stage c staging y) := by
  rw [uplinkReceive_body rfl]
  cases left <;> rfl

theorem uplinkReceive_uplinkAt_firstCheck :
    uplinkReceive m last y (s.uplinkAt y (.bodyLeft c 0) staging) = s.uplinkAt y (.check c (some y)) staging :=
  uplinkReceive_firstCheck rfl m last y

/-- A Length of at most 248 is followed by that many body bytes. -/
theorem uplinkHeaderEnd_uplinkAt (hc : c ≠ .notice) (hy : y.toNat ≤ 248) (p : UplinkPhase) :
    uplinkHeaderEnd c y (s.uplinkAt y p staging) = s.uplinkAt y (.bodyLeft c y.toNat) (stage c staging y) := by
  rw [uplinkHeaderEnd, if_neg hc, if_neg (show ¬ Config.maxBody < y.toNat from Nat.not_lt.2 hy)]
  rfl

end

/-- A known Class begins the header (R11). -/
theorem exec_uplinkByte_class {s : State} {n : Nat} {x : Byte} {c : RecordClass} (h : s.resetHeld = false)
    (hm : s.uplinkMonitor = .up n) (hp : s.uplinkRx.phase = .classByte) (hx : classOf x = some c) :
    exec (.byteReceived .uplink x) s = .next (s.uplinkAt x (.header c 1) (if c.stored then [x] else [])) := by
  rw [exec_uplinkByte_heard h hm, uplinkReceive_class (s := s.heardUplink x) hp, judgeClass, hx]
  rfl

section

variable {s : State} (h : s.resetHeld = false) (c : RecordClass) (cs : List Instr)
include h

/-- The header bytes after the Class are received, and the last of them is judged, whatever follows. -/
theorem execAll_uplinkHeader (len : Byte) (header : List Byte) : ∀ (got : Nat) (x : Byte) (staging : List Byte),
    got + header.length + 1 = c.headerLength →
    execAll (received .uplink header ++ .byteReceived .uplink len :: cs) (s.uplinkAt x (.header c got) staging) =
      execAll cs (uplinkHeaderEnd c len
        (s.uplinkAt len (.header c (got + header.length)) (header.foldl (stage c) staging))) := by
  induction header with
  | nil =>
    intro got x staging hgot
    refine execAll_cons ?_ cs
    rw [exec_uplinkByte_uplinkAt s x len staging h, uplinkReceive_headerEnd rfl hgot]
    rfl
  | cons y header ih =>
    intro got x staging hgot
    rw [List.length_cons] at hgot ⊢
    have hexec := exec_uplinkByte_uplinkAt s x y staging h (.header c got)
    rw [uplinkReceive_uplinkAt_header (hgot := by omega)] at hexec
    rw [received_cons, List.cons_append, execAll_cons hexec, ih _ _ _ (by omega), List.foldl_cons]
    simp only [Nat.add_assoc, Nat.add_comm 1]

/-- The body bytes and the first Check byte are received, whatever follows. -/
theorem execAll_uplinkBody (hi : Byte) (body : List Byte) : ∀ (x : Byte) (staging : List Byte),
    execAll (received .uplink body ++ .byteReceived .uplink hi :: cs)
        (s.uplinkAt x (.bodyLeft c body.length) staging) =
      execAll cs (s.uplinkAt hi (.check c (some hi)) (body.foldl (stage c) staging)) := by
  induction body with
  | nil =>
    intro x staging
    refine execAll_cons ?_ cs
    rw [List.length_nil, exec_uplinkByte_uplinkAt s x hi staging h, uplinkReceive_uplinkAt_firstCheck]
    rfl
  | cons y body ih =>
    intro x staging
    have hexec := exec_uplinkByte_uplinkAt s x y staging h (.bodyLeft c (body.length + 1))
    rw [uplinkReceive_uplinkAt_body] at hexec
    rw [received_cons, List.cons_append, List.length_cons, execAll_cons hexec, ih, List.foldl_cons]

/-- The last Check byte completes the record (R12). -/
theorem execAll_uplinkLast (x hi lo : Byte) (staging : List Byte) :
    execAll [.byteReceived .uplink lo] (s.uplinkAt x (.check c (some hi)) staging) =
      .next ((completeUplinkRecord c staging hi lo (s.uplinkAt lo (.check c (some hi)) staging)).setUplinkPhase
        .hunt []) := by
  have hexec := exec_uplinkByte_uplinkAt s x lo staging h (.check c (some hi))
  rw [uplinkReceive_lastCheck rfl] at hexec
  exact execAll_cons hexec []

end

/-- An uplink record with a Length, from its Class byte to its last Check byte (R4, R11, R12). -/
theorem execAll_uplinkRecord {s : State} {n : Nat} {c : RecordClass} {cls : Byte} {header body : List Byte}
    (h : s.resetHeld = false) (hm : s.uplinkMonitor = .up n) (hp : s.uplinkRx.phase = .classByte)
    (hcls : classOf cls = some c) (hc : c ≠ .notice) (hheader : header.length + 2 = c.headerLength)
    (hlen : body.length ≤ 248) (hi lo : Byte) :
    let bytes := if c.stored then cls :: header ++ BitVec.ofNat 8 body.length :: body else []
    execAll (received .uplink (cls :: header ++ BitVec.ofNat 8 body.length :: body ++ [hi, lo])) s =
      .next ((completeUplinkRecord c bytes hi lo (s.uplinkAt lo (.check c (some hi)) bytes)).setUplinkPhase .hunt []) := by
  intro bytes
  have hbyte : (BitVec.ofNat 8 body.length).toNat = body.length := by rw [BitVec.toNat_ofNat]; omega
  have hstaged : body.foldl (stage c) (stage c (header.foldl (stage c) (if c.stored then [cls] else []))
      (BitVec.ofNat 8 body.length)) = bytes := by
    rw [foldl_stage, foldl_stage, stage]
    cases hs : c.stored <;> simp [bytes, hs]
  have hbytes : received .uplink (cls :: header ++ BitVec.ofNat 8 body.length :: body ++ [hi, lo]) =
      .byteReceived .uplink cls :: (received .uplink header ++ .byteReceived .uplink (BitVec.ofNat 8 body.length)
        :: (received .uplink body ++ [.byteReceived .uplink hi, .byteReceived .uplink lo])) := by
    simp [received]
  rw [hbytes, execAll_cons (exec_uplinkByte_class h hm hp hcls), execAll_uplinkHeader h c _ _ _ _ _ _ (by omega),
    uplinkHeaderEnd_uplinkAt _ _ _ _ hc (by omega), hbyte, execAll_uplinkBody h, hstaged, execAll_uplinkLast h]

/-- A NOTICE sent up the wrong way, from its Class byte to its last Check byte: it has no Length and no body (R4, R11). -/
theorem execAll_uplinkNotice {s : State} {n : Nat} {header : List Byte} (h : s.resetHeld = false)
    (hm : s.uplinkMonitor = .up n) (hp : s.uplinkRx.phase = .classByte) (hheader : header.length = 8) (hi lo : Byte) :
    execAll (received .uplink (0x03#8 :: header ++ [hi, lo])) s =
      .next ((s.uplinkAt lo (.check .notice (some hi)) []).badClass.setUplinkPhase .hunt []) := by
  obtain ⟨front, last, rfl⟩ : ∃ front last, header = front ++ [last] := by
    rcases List.eq_nil_or_concat' header with rfl | ⟨front, last, rfl⟩
    · cases hheader
    · exact ⟨front, last, rfl⟩
  have hstaged : front.foldl (stage .notice) (if RecordClass.notice.stored then [0x03#8] else []) = [] :=
    foldl_stage .notice front []
  have hbytes : received .uplink (0x03#8 :: (front ++ [last]) ++ [hi, lo]) =
      .byteReceived .uplink 0x03#8 :: (received .uplink front ++ .byteReceived .uplink last
        :: (received .uplink [] ++ [.byteReceived .uplink hi, .byteReceived .uplink lo])) := by
    simp [received]
  have hend (xs : List Byte) (k : Nat) : uplinkHeaderEnd .notice last (s.uplinkAt last (.header .notice k) xs) =
      s.uplinkAt last (.bodyLeft .notice 0) xs := rfl
  have hfront : 1 + front.length + 1 = RecordClass.notice.headerLength := by
    simp only [List.length_append, List.length_singleton] at hheader
    simp only [RecordClass.headerLength]
    omega
  rw [hbytes, execAll_cons (exec_uplinkByte_class h hm hp rfl), execAll_uplinkHeader h _ _ _ _ _ _ _ hfront, hstaged, hend,
    ← List.length_nil (α := Byte), execAll_uplinkBody h, execAll_uplinkLast h]
  rfl

/-! ## The records the host sends (R12) -/

/-- A bad Check: CHECK_ERR (R12). -/
theorem completeUplinkRecord_badCheck {c : RecordClass} {bytes : List Byte} {hi lo : Byte} (hc : c.stored = true)
    (hcheck : checkOf bytes ≠ hi ++ lo) (s : State) : completeUplinkRecord c bytes hi lo s = s.uplinkCheckError := by
  have hgood : checkGood bytes hi lo = false := Bool.eq_false_iff.2 fun h => hcheck (beq_iff_eq.1 h)
  cases c with
  | dataDown => simp [completeUplinkRecord, hgood]
  | request => simp [completeUplinkRecord, hgood]
  | dataUp | response | notice => cases hc

/-- A good DATA_DOWN with a Channel below 128 goes to the Outbound FIFO (R12). -/
theorem completeDown_good {cls c k len hi lo : Byte} {body : List Byte}
    (hcheck : checkOf (cls :: c :: k :: len :: body) = hi ++ lo) (hc : c.toNat < 128) (s : State) :
    completeUplinkRecord .dataDown (cls :: c :: k :: len :: body) hi lo s =
      appendOutbound ⟨⟨c.toNat, hc⟩, k, body⟩ s.uplinkGood := by
  have hgood : checkGood (cls :: c :: k :: len :: body) hi lo = true := beq_iff_eq.2 hcheck
  have hindex : indexOf Config.channels ((cls :: c :: k :: len :: body).getD 1 0#8) = some ⟨c.toNat, hc⟩ :=
    indexOf_eq_some hc
  simp only [completeUplinkRecord, hgood, dispatchDown, hindex]
  rfl

/-- A DATA_DOWN with a good Check and a Channel of 128 or above counts FORMAT_ERR (R12). -/
theorem completeDown_badChannel {cls c k len hi lo : Byte} {body : List Byte}
    (hcheck : checkOf (cls :: c :: k :: len :: body) = hi ++ lo) (hc : ¬ c.toNat < 128) (s : State) :
    completeUplinkRecord .dataDown (cls :: c :: k :: len :: body) hi lo s = s.uplinkFormatError := by
  have hgood : checkGood (cls :: c :: k :: len :: body) hi lo = true := beq_iff_eq.2 hcheck
  have hindex : indexOf Config.channels ((cls :: c :: k :: len :: body).getD 1 0#8) = none :=
    indexOf_eq_none (Nat.not_lt.1 hc)
  simp only [completeUplinkRecord, hgood, dispatchDown, hindex]
  rfl

/-- A good REQUEST goes to the Request FIFO (R12). -/
theorem completeRequest_good {cls n1 n0 command len hi lo : Byte} {params : List Byte}
    (hcheck : checkOf (cls :: n1 :: n0 :: command :: len :: params) = hi ++ lo) (s : State) :
    completeUplinkRecord .request (cls :: n1 :: n0 :: command :: len :: params) hi lo s =
      appendRequest ⟨n1 ++ n0, command, params⟩ s.uplinkGood :=
  if_pos (beq_iff_eq.2 hcheck)

/-- Settles O12: the bytes are received into the staging, and the Check, the Channel and the room in the FIFO decide. -/
theorem uplinkRecordsJudgedAtTheirEnd : Obligations.UplinkRecordsJudgedAtTheirEnd := by
  refine ⟨fun s n c k hi lo body h hm hp hlen => ?_, fun s n n1 n0 command hi lo params h hm hp hlen => ?_⟩
  · refine (execAll_uplinkRecord (c := .dataDown) (header := [c, k]) h hm hp rfl (by decide) rfl hlen hi lo).trans
      (congrArg _ ?_)
    by_cases hcheck : checkOf (0x11#8 :: c :: k :: BitVec.ofNat 8 body.length :: body) = hi ++ lo
    · rw [if_pos hcheck]
      by_cases hc : c.toNat < 128
      · rw [dif_pos hc]
        refine (congrArg (State.setUplinkPhase · .hunt []) (completeDown_good hcheck hc _)).trans ?_
        by_cases hfull : s.outbound.length < 16
        · rw [if_pos hfull, appendOutbound, if_pos (by exact hfull)]
          rfl
        · rw [if_neg hfull, appendOutbound, if_neg (by exact hfull)]
          rfl
      · rw [dif_neg hc]
        exact congrArg (State.setUplinkPhase · .hunt []) (completeDown_badChannel hcheck hc _)
    · rw [if_neg hcheck]
      exact congrArg (State.setUplinkPhase · .hunt []) (completeUplinkRecord_badCheck rfl hcheck _)
  · refine (execAll_uplinkRecord (c := .request) (header := [n1, n0, command]) h hm hp rfl (by decide) rfl hlen
      hi lo).trans (congrArg _ ?_)
    by_cases hcheck : checkOf (0x12#8 :: n1 :: n0 :: command :: BitVec.ofNat 8 params.length :: params) = hi ++ lo
    · rw [if_pos hcheck]
      refine (congrArg (State.setUplinkPhase · .hunt []) (completeRequest_good hcheck _)).trans ?_
      by_cases hfull : s.requestFifo.length < 4
      · rw [if_pos hfull, appendRequest, if_pos (by exact hfull)]
        rfl
      · rw [if_neg hfull, appendRequest, if_neg (by exact hfull)]
        rfl
    · rw [if_neg hcheck]
      exact congrArg (State.setUplinkPhase · .hunt []) (completeUplinkRecord_badCheck rfl hcheck _)

/-- Settles O13: the Class byte decides at once, or the record is followed whole by the header of its Class. -/
theorem badClassesAreCounted : Obligations.BadClassesAreCounted := by
  intro s n h hm hp
  refine ⟨fun x hx => ?_, fun cls hi lo header body hlen hcls => ?_, fun hi lo header hheader =>
    execAll_uplinkNotice h hm hp hheader hi lo⟩
  · have hclass : classOf x = none := by
      simp only [List.mem_cons, List.not_mem_nil, or_false, not_or] at hx
      obtain ⟨h1, h2, h3, h4, h5⟩ := hx
      simp only [classOf, if_neg h1, if_neg h2, if_neg h3, if_neg h4, if_neg h5]
    rw [exec_uplinkByte_heard h hm, uplinkReceive_class (s := s.heardUplink x) hp, judgeClass, hclass]
    rfl
  · rcases hcls with ⟨rfl, hheader⟩ | ⟨rfl, hheader⟩
    · exact execAll_uplinkRecord (c := .dataUp) h hm hp rfl (by decide) (by rw [hheader]; rfl) hlen hi lo
    · exact execAll_uplinkRecord (c := .response) h hm hp rfl (by decide) (by rw [hheader]; rfl) hlen hi lo

end Sys2Proof.Machine
end

section
/-! What a command can write, by item: the frames of Laws/Frames.lean in one statement. -/

-- One proof after another: side by side, each waiting thread takes a stack of its own.
set_option Elab.async false

namespace Sys2Proof.Machine

/-- The items of `State`, one for each field. -/
inductive Item where
  | resetHeld
  | timebase
  | fieldMonitor
  | uplinkMonitor
  | fieldRx
  | uplinkRx
  | fieldTx
  | uplinkTx
  | slots
  | classifyFifo
  | outbound
  | contexts
  | watchClaims
  | windowClaims
  | classifier
  | queues
  | bankA
  | bankB
  | active
  | generation
  | swap
  | responses
  | notices
  | noticeMask
  | noticeNumber
  | requestFifo
  | engine
  | stored
  | counters
  | pending
  deriving DecidableEq

/-- The item has one value in two states. -/
def Item.Same (s t : State) : Item → Prop
  | .resetHeld => t.resetHeld = s.resetHeld
  | .timebase => t.timebase = s.timebase
  | .fieldMonitor => t.fieldMonitor = s.fieldMonitor
  | .uplinkMonitor => t.uplinkMonitor = s.uplinkMonitor
  | .fieldRx => t.fieldRx = s.fieldRx
  | .uplinkRx => t.uplinkRx = s.uplinkRx
  | .fieldTx => t.fieldTx = s.fieldTx
  | .uplinkTx => t.uplinkTx = s.uplinkTx
  | .slots => t.slots = s.slots
  | .classifyFifo => t.classifyFifo = s.classifyFifo
  | .outbound => t.outbound = s.outbound
  | .contexts => t.contexts = s.contexts
  | .watchClaims => t.watchClaims = s.watchClaims
  | .windowClaims => t.windowClaims = s.windowClaims
  | .classifier => t.classifier = s.classifier
  | .queues => t.queues = s.queues
  | .bankA => t.bankA = s.bankA
  | .bankB => t.bankB = s.bankB
  | .active => t.active = s.active
  | .generation => t.generation = s.generation
  | .swap => t.swap = s.swap
  | .responses => t.responses = s.responses
  | .notices => t.notices = s.notices
  | .noticeMask => t.noticeMask = s.noticeMask
  | .noticeNumber => t.noticeNumber = s.noticeNumber
  | .requestFifo => t.requestFifo = s.requestFifo
  | .engine => t.engine = s.engine
  | .stored => t.stored = s.stored
  | .counters => t.counters = s.counters
  | .pending => t.pending = s.pending

/-- What every answered request may write: it leaves the Request FIFO, and the engine answers or goes on (R154, R155). -/
def Item.ofAnswer : List Item := [.requestFifo, .responses, .stored, .engine]

/-- The items that the event of a command may write. -/
def writtenBy : Instr → List Item
  | .powerOnReset =>
    [.resetHeld, .timebase, .fieldMonitor, .uplinkMonitor, .fieldRx, .uplinkRx, .fieldTx, .uplinkTx, .slots,
      .classifyFifo, .outbound, .contexts, .watchClaims, .windowClaims, .classifier, .queues, .bankA, .bankB,
      .active, .generation, .swap, .responses, .notices, .noticeMask, .noticeNumber, .requestFifo, .engine,
      .stored, .counters]
  | .resetRelease _ => [.resetHeld, .contexts, .notices]
  | .byteReceived .field _ => [.fieldMonitor, .fieldRx, .slots, .classifyFifo, .counters, .notices]
  | .byteReceived .uplink _ => [.uplinkMonitor, .uplinkRx, .outbound, .requestFifo, .counters, .notices]
  | .lineDown .field => [.fieldMonitor, .fieldRx, .slots, .counters, .notices]
  | .lineDown .uplink => [.uplinkMonitor, .uplinkRx, .counters, .notices]
  | .millisecondTick => [.watchClaims, .windowClaims]
  | .watchTick _ => [.watchClaims, .contexts, .notices, .counters]
  | .windowExpiry _ => [.windowClaims, .contexts]
  | .classifyTake => [.slots, .classifier]
  | .classifyComplete =>
    [.classifier, .classifyFifo, .slots, .queues, .contexts, .counters, .notices, .active, .generation, .swap]
  | .fieldTransmitStart => [.outbound, .fieldTx, .counters, .contexts]
  | .fieldTransmitEnd => [.fieldTx]
  | .uplinkGrant => [.responses, .notices, .noticeNumber, .queues, .slots, .uplinkTx]
  | .uplinkTransmitComplete => [.uplinkTx, .slots, .counters]
  | .modifyContextChannel => [.contexts, .notices, .counters, .engine, .responses, .stored]
  | .ackWatchChannel => [.contexts, .engine, .responses, .stored]
  | .copyBankComplete => [.bankA, .bankB, .engine, .responses, .stored]
  | .clearStagingComplete => [.bankA, .bankB, .engine, .responses, .stored]
  | .limitExpiry _ => [.watchClaims, .contexts, .notices, .counters]
  | .silenceExpiry _ => [.watchClaims, .contexts, .notices, .counters]
  | .duplicateRequest => [.requestFifo, .responses]
  | .unknownCommandRequest => Item.ofAnswer
  | .identify => Item.ofAnswer
  | .readStatus => Item.ofAnswer
  | .readContext => Item.ofAnswer
  | .modifyContext => Item.ofAnswer
  | .readWatch => [.contexts] ++ Item.ofAnswer
  | .ackWatch => Item.ofAnswer
  | .writeRules => [.bankA, .bankB] ++ Item.ofAnswer
  | .readRules => Item.ofAnswer
  | .writeChain => [.bankA, .bankB] ++ Item.ofAnswer
  | .readChain => Item.ofAnswer
  | .writeMap => [.bankA, .bankB] ++ Item.ofAnswer
  | .readMap => Item.ofAnswer
  | .setDefaultVerdict => [.bankA, .bankB] ++ Item.ofAnswer
  | .readDefaultVerdict => Item.ofAnswer
  | .copyBank => Item.ofAnswer
  | .clearStaging => Item.ofAnswer
  | .armSwapNext => [.active, .generation, .contexts, .swap, .notices, .counters] ++ Item.ofAnswer
  | .armSwapMarker => [.swap] ++ Item.ofAnswer
  | .cancelSwap => [.swap] ++ Item.ofAnswer
  | .setQueueLimits => [.queues] ++ Item.ofAnswer
  | .setNoticeMask => [.noticeMask] ++ Item.ofAnswer
  | .readCounters => [.contexts, .counters] ++ Item.ofAnswer
  | .readCountersClear => [.contexts, .counters] ++ Item.ofAnswer
  | .restartTraffic =>
    [.slots, .classifyFifo, .outbound, .contexts, .classifier, .queues, .swap, .notices, .counters] ++ Item.ofAnswer

/-- `s` with the items of a list as `t` has them. -/
def State.update (l : List Item) (s t : State) : State where
  resetHeld := bif l.elem .resetHeld then t.resetHeld else s.resetHeld
  timebase := bif l.elem .timebase then t.timebase else s.timebase
  fieldMonitor := bif l.elem .fieldMonitor then t.fieldMonitor else s.fieldMonitor
  uplinkMonitor := bif l.elem .uplinkMonitor then t.uplinkMonitor else s.uplinkMonitor
  fieldRx := bif l.elem .fieldRx then t.fieldRx else s.fieldRx
  uplinkRx := bif l.elem .uplinkRx then t.uplinkRx else s.uplinkRx
  fieldTx := bif l.elem .fieldTx then t.fieldTx else s.fieldTx
  uplinkTx := bif l.elem .uplinkTx then t.uplinkTx else s.uplinkTx
  slots := bif l.elem .slots then t.slots else s.slots
  classifyFifo := bif l.elem .classifyFifo then t.classifyFifo else s.classifyFifo
  outbound := bif l.elem .outbound then t.outbound else s.outbound
  contexts := bif l.elem .contexts then t.contexts else s.contexts
  watchClaims := bif l.elem .watchClaims then t.watchClaims else s.watchClaims
  windowClaims := bif l.elem .windowClaims then t.windowClaims else s.windowClaims
  classifier := bif l.elem .classifier then t.classifier else s.classifier
  queues := bif l.elem .queues then t.queues else s.queues
  bankA := bif l.elem .bankA then t.bankA else s.bankA
  bankB := bif l.elem .bankB then t.bankB else s.bankB
  active := bif l.elem .active then t.active else s.active
  generation := bif l.elem .generation then t.generation else s.generation
  swap := bif l.elem .swap then t.swap else s.swap
  responses := bif l.elem .responses then t.responses else s.responses
  notices := bif l.elem .notices then t.notices else s.notices
  noticeMask := bif l.elem .noticeMask then t.noticeMask else s.noticeMask
  noticeNumber := bif l.elem .noticeNumber then t.noticeNumber else s.noticeNumber
  requestFifo := bif l.elem .requestFifo then t.requestFifo else s.requestFifo
  engine := bif l.elem .engine then t.engine else s.engine
  stored := bif l.elem .stored then t.stored else s.stored
  counters := bif l.elem .counters then t.counters else s.counters
  pending := bif l.elem .pending then t.pending else s.pending

/-- An update of some items leaves every other item. -/
theorem Item.same_of_update {l : List Item} {s t : State} (h : t = State.update l s t) {x : Item} (hx : x ∉ l) :
    x.Same s t := by
  have helem : l.elem x = false := by simpa using hx
  rw [h]
  cases x <;> simp only [Item.Same, State.update, helem, cond_false]

/-- An event leaves every item that its command does not write. -/
theorem exec_same {c : Instr} {s t : State} (h : exec c s = .next t) {x : Item} (hx : x ∉ writtenBy c) : x.Same s t := by
  refine Item.same_of_update ?_ hx
  cases c with
  | powerOnReset =>
    cases h
    rfl
  | resetRelease => exact exec_resetRelease_frame h
  | byteReceived link y =>
    cases link with
    | field => exact exec_fieldByte_frame h
    | uplink => exact exec_uplinkByte_frame h
  | lineDown link =>
    cases link with
    | field => exact exec_loseField_frame h
    | uplink => exact exec_loseUplink_frame h
  | millisecondTick => exact exec_millisecondTick_frame h
  | watchTick => exact exec_watchTick_frame h
  | windowExpiry => exact exec_windowExpiry_frame h
  | classifyTake => exact exec_classifyTake_frame h
  | classifyComplete => exact exec_classifyComplete_frame h
  | fieldTransmitStart => exact exec_fieldTransmitStart_frame h
  | fieldTransmitEnd => exact exec_fieldTransmitEnd_frame h
  | uplinkGrant => exact exec_uplinkGrant_frame h
  | uplinkTransmitComplete => exact exec_uplinkTransmitComplete_frame h
  | modifyContextChannel => exact exec_modifyContextChannel_frame h
  | ackWatchChannel => exact exec_ackWatchChannel_frame h
  | copyBankComplete => exact exec_copyBankComplete_frame h
  | clearStagingComplete => exact exec_clearStagingComplete_frame h
  | limitExpiry => exact exec_limitExpiry_frame h
  | silenceExpiry => exact exec_silenceExpiry_frame h
  | duplicateRequest => exact exec_duplicateRequest_frame h
  | unknownCommandRequest => exact exec_unknownCommandRequest_frame h
  | identify => exact exec_identify_frame h
  | readStatus => exact exec_readStatus_frame h
  | readContext => exact exec_readContext_frame h
  | modifyContext => exact exec_modifyContext_frame h
  | readWatch => exact exec_readWatch_frame h
  | ackWatch => exact exec_ackWatch_frame h
  | writeRules => exact exec_writeRules_frame h
  | readRules => exact exec_readRules_frame h
  | writeChain => exact exec_writeChain_frame h
  | readChain => exact exec_readChain_frame h
  | writeMap => exact exec_writeMap_frame h
  | readMap => exact exec_readMap_frame h
  | setDefaultVerdict => exact exec_setDefaultVerdict_frame h
  | readDefaultVerdict => exact exec_readDefaultVerdict_frame h
  | copyBank => exact exec_copyBank_frame h
  | clearStaging => exact exec_clearStaging_frame h
  | armSwapNext => exact exec_armSwapNext_frame h
  | armSwapMarker => exact exec_armSwapMarker_frame h
  | cancelSwap => exact exec_cancelSwap_frame h
  | setQueueLimits => exact exec_setQueueLimits_frame h
  | setNoticeMask => exact exec_setNoticeMask_frame h
  | readCounters => exact exec_readCounters_frame h
  | readCountersClear => exact exec_readCountersClear_frame h
  | restartTraffic => exact exec_restartTraffic_frame h

end Sys2Proof.Machine
end

section
/-! Invariants of a few items and the rows of requests, and the capacities of the Forward Queues (R100). -/

-- One proof after another: side by side, each waiting thread takes a stack of its own.
set_option Elab.async false

namespace Sys2Proof.Machine

/-! ## Invariants of a few items -/

/-- An invariant of some items is kept by every step when a microsecond keeps it, and every command that writes one of the
items. -/
theorem KeptByStep.of_items {inv : State → Prop} (items : List Item) (hpending : .pending ∉ items)
    (hlocal : ∀ s t, (∀ x ∈ items, x.Same s t) → inv s → inv t) (htime : ∀ s, inv s → inv (microsecond s))
    (hexec : ∀ c s t, (∃ x ∈ items, x ∈ writtenBy c) → inv s → exec c s = .next t → inv t) : KeptByStep inv := by
  refine .of_exec (fun s l hi => hlocal s _ (fun x hx => ?_) hi) htime fun c s t hi h => ?_
  · cases x <;> first
      | rfl
      | exact absurd hx hpending
  · by_cases hw : ∃ x ∈ items, x ∈ writtenBy c
    · exact hexec c s t hw hi h
    · exact hlocal s t (fun x hx => exec_same h fun hc => hw ⟨x, hx, hc⟩) hi

/-! ## Requests -/

/-- What the engine does with a request that the row of a command takes (R154). -/
def rowAct : Instr → Option (Request → State → State)
  | .duplicateRequest => some answerDuplicate
  | .unknownCommandRequest => some fun r t => t.respond r .unknownCommand []
  | .identify => some answerIdentify
  | .readStatus => some answerReadStatus
  | .readContext => some answerReadContext
  | .modifyContext => some beginModify
  | .readWatch => some answerReadWatch
  | .ackWatch => some beginAck
  | .writeRules => some fun r t => answerWriter (validWriteRules r.params) writeRulesTo r t
  | .readRules => some answerReadRules
  | .writeChain => some fun r t => answerWriter (validWriteChain r.params) writeChainTo r t
  | .readChain => some answerReadChain
  | .writeMap => some fun r t => answerWriter (validWriteMap r.params) writeMapTo r t
  | .readMap => some answerReadMap
  | .setDefaultVerdict => some fun r t => answerWriter (validSetDefaultVerdict r.params) writeDefaultTo r t
  | .readDefaultVerdict => some answerReadDefault
  | .copyBank => some fun r t => beginLong (.copying r 0) r t
  | .clearStaging => some fun r t => beginLong (.clearing r 0) r t
  | .armSwapNext => some answerArmNext
  | .armSwapMarker => some answerArmMarker
  | .cancelSwap => some answerCancel
  | .setQueueLimits => some answerQueueLimits
  | .setNoticeMask => some answerNoticeMask
  | .readCounters => some answerReadCounters
  | .readCountersClear => some answerReadCounters
  | .restartTraffic => some answerRestart
  | _ => none

/-- The event of a request row is the take of its request. -/
theorem exec_eq_takeAs {c : Instr} {act : Request → State → State} (hc : rowAct c = some act) (s : State) :
    exec c s = live s (s.takeAs c act) := by
  cases c <;> cases hc <;> rfl

/-- A request row changes nothing, or takes the head of the Request FIFO while the engine is IDLE and finds a place for the
response (R143, R154). -/
theorem exec_row_cases {c : Instr} {act : Request → State → State} {s t : State} (hc : rowAct c = some act)
    (h : exec c s = .next t) :
    t = s ∨ ∃ r rest, s.requestFifo = r :: rest ∧ s.engine = .idle ∧ s.responses.length < 4
      ∧ t = act r { s with requestFifo := rest } := by
  rw [exec_eq_takeAs hc] at h
  rcases live_cases h with rfl | ⟨-, rfl⟩
  · exact .inl rfl
  · rcases s.takeAs_cases c act with e | ⟨r, rest, hf, he, hr, -, e⟩
    · exact .inl e
    · exact .inr ⟨r, rest, hf, he, hr, e⟩

/-- What holds of a state and of an event's effect holds after the event. -/
theorem of_live {P : State → Prop} {s next t : State} (h : live s next = .next t) (hs : P s) (hnext : P next) : P t := by
  rcases live_cases h with rfl | ⟨-, rfl⟩
  · exact hs
  · exact hnext

/-- What holds of a state and of what the engine makes of a request taken from it holds after the event of the row. -/
theorem of_row {P : State → Prop} {c : Instr} {act : Request → State → State} {s t : State} (hc : rowAct c = some act)
    (h : exec c s = .next t) (hs : P s)
    (hact : ∀ r rest, s.requestFifo = r :: rest → s.engine = .idle → s.responses.length < 4 →
      P (act r { s with requestFifo := rest })) : P t := by
  rcases exec_row_cases hc h with rfl | ⟨r, rest, hf, he, hr, rfl⟩
  · exact hs
  · exact hact r rest hf he hr

/-! ## The Forward Queues stay within their capacities (R100) -/

/-- A Forward Queue has a Limit of 1 to 64 and a depth of at most 64 (R100). -/
def ForwardQueue.Bounded (q : ForwardQueue) : Prop := 1 ≤ q.limit ∧ q.limit ≤ 64 ∧ q.depth ≤ 64

theorem queuesBounded_iff (s : State) : QueuesBounded s ↔ ∀ q : QueueId, s.queues[q].Bounded := Iff.rfl

/-- The Forward Queues stand or one is rewritten within its bounds. -/
theorem QueuesBounded.set {s t : State} {q : QueueId} {x : ForwardQueue} (hi : QueuesBounded s) (hx : x.Bounded)
    (ht : t.queues = s.queues.set q x) : QueuesBounded t := by
  intro k
  rw [ht, Vector_getElem_set_fin]
  split
  · exact hx
  · exact hi k

theorem QueuesBounded.same {s t : State} (hi : QueuesBounded s) (ht : t.queues = s.queues) : QueuesBounded t := by
  intro q
  rw [ht]
  exact hi q

/-- A queue below its Limit has room for one slot more (R101). -/
theorem ForwardQueue.Bounded.append {q : ForwardQueue} (hq : q.Bounded) (ha : q.accepts = true) (i : SlotId) :
    (q.append i).Bounded := by
  obtain ⟨h1, h2, h3⟩ := hq
  have hroom : q.depth < q.limit := of_decide_eq_true ha
  refine ⟨h1, h2, ?_⟩
  simp only [ForwardQueue.append, ForwardQueue.depth, List.length_append, List.length_singleton] at hroom ⊢
  omega

/-- A queue without its head is within its bounds. -/
theorem ForwardQueue.Bounded.tail {q : ForwardQueue} (hq : q.Bounded) {i : SlotId} {rest : List SlotId}
    (hs : q.slots = i :: rest) : ({ q with slots := rest } : ForwardQueue).Bounded := by
  obtain ⟨h1, h2, h3⟩ := hq
  refine ⟨h1, h2, ?_⟩
  simp only [ForwardQueue.depth, hs, List.length_cons] at h3 ⊢
  omega

theorem QueuesBounded.dispose {s : State} (hi : QueuesBounded s) (i : SlotId) (r : UpRecord) (d : Disposal) :
    QueuesBounded (s.dispose i r d) := by
  cases d with
  | drop => exact hi
  | mapDrop => exact hi
  | offer q up =>
    simp only [State.dispose]
    split
    · next ha => exact hi.set (ForwardQueue.Bounded.append (hi q) ha i) rfl
    · exact hi

@[simp] theorem State.swapAtCompletion_queues (s : State) (w : SwapState) (marker : Bool) (ch : Channel) :
    (s.swapAtCompletion w marker ch).queues = s.queues := by
  unfold State.swapAtCompletion
  split
  · rfl
  · rfl
  · split <;> rfl

theorem QueuesBounded.completeClassification {s : State} (hi : QueuesBounded s) :
    QueuesBounded (completeClassification s) := by
  unfold Machine.completeClassification
  split
  · exact hi
  · next i l g _ =>
    split
    · next r _ _ =>
      exact (QueuesBounded.dispose (s := { s with classifier := .idle }) hi i r
        (judge (s.bank l) g s.timebase.count s.swap r (s.context r.channel)).disposal).same (by simp [completeRecord])
    · exact hi

theorem QueuesBounded.grantSlot {s : State} (hi : QueuesBounded s) (q : QueueId) : QueuesBounded (grantSlot q s) := by
  unfold Machine.grantSlot
  split
  · exact hi
  · next i rest hs =>
    split
    · exact hi.set (ForwardQueue.Bounded.tail (hi q) hs) rfl
    · exact hi

theorem QueuesBounded.grant {s : State} (hi : QueuesBounded s) : QueuesBounded (grant s) := by
  unfold Machine.grant
  split
  · unfold grantBest
    split
    · exact hi
    · split
      · exact hi
      · split
        · exact hi.grantSlot _
        · exact hi
  · exact hi

/-- The Limits that SET QUEUE LIMITS accepts are 1 to 64 (R103). -/
theorem validQueueLimits_bounds {ps : List Byte} {limits : List Nat} (h : validQueueLimits ps = .ok limits) :
    ∀ n ∈ limits, 1 ≤ n ∧ n ≤ 64 := by
  refine parseAll_forall (f := parseLimit) (fun x n hn => ?_) ps limits ((checked_ok_iff _ _ _).1 h).2
  unfold parseLimit at hn
  split at hn
  · next hx =>
    cases hn
    exact hx
  · cases hn

theorem QueuesBounded.answerQueueLimits {s : State} (hi : QueuesBounded s) (r : Request) :
    QueuesBounded (answerQueueLimits r s) := by
  unfold Machine.answerQueueLimits
  rcases answerChecked_cases (validQueueLimits r.params) r s _ with ⟨e, -, h⟩ | ⟨limits, hv, h⟩ <;> rw [h]
  · exact hi
  · intro q
    have hlimit : 1 ≤ limits.getD q.val s.queues[q].limit ∧ limits.getD q.val s.queues[q].limit ≤ 64 := by
      rw [List.getD_eq_getElem?_getD]
      cases hq : limits[q.val]? with
      | none => exact ⟨(hi q).1, (hi q).2.1⟩
      | some n => exact validQueueLimits_bounds hv n (List.mem_of_getElem? hq)
    have hqueue : (setLimits s.queues limits)[q] = { s.queues[q] with limit := limits.getD q.val s.queues[q].limit } := by
      simp [setLimits]
    rw [State.respond_queues, hqueue]
    exact ⟨hlimit.1, hlimit.2, (hi q).2.2⟩

theorem QueuesBounded.answerRestart {s : State} (hi : QueuesBounded s) (r : Request) :
    QueuesBounded (answerRestart r s) := by
  unfold Machine.answerRestart
  rcases answerChecked_cases (validEmpty r.params) r s _ with ⟨e, -, h⟩ | ⟨a, -, h⟩ <;> rw [h]
  · exact hi
  · intro q
    have hqueue : (restartOwners s).queues[q] = { s.queues[q] with slots := [] } := by simp [restartOwners]
    rw [State.respond_queues, hqueue]
    exact ⟨(hi q).1, (hi q).2.1, Nat.zero_le _⟩

theorem queuesBounded_kept : KeptByStep QueuesBounded := by
  refine .of_items [.queues] (by simp) (fun s t hs hi => hi.same (hs .queues (by simp))) (fun s hi => hi) ?_
  rintro c s t ⟨x, hx, hw⟩ hi h
  rw [List.mem_singleton] at hx
  subst hx
  cases c
  case powerOnReset =>
    cases h
    intro q
    simp [State.reset, ForwardQueue.depth]
  case classifyComplete => exact of_live h hi hi.completeClassification
  case uplinkGrant => exact of_live h hi hi.grant
  case setQueueLimits =>
    exact of_row rfl h hi fun r rest _ _ _ =>
      QueuesBounded.answerQueueLimits (s := { s with requestFifo := rest }) hi r
  case restartTraffic =>
    exact of_row rfl h hi fun r rest _ _ _ =>
      QueuesBounded.answerRestart (s := { s with requestFifo := rest }) hi r
  case byteReceived link y => cases link <;> simp [writtenBy] at hw
  case lineDown link => cases link <;> simp [writtenBy] at hw
  all_goals simp [writtenBy, Item.ofAnswer] at hw

end Sys2Proof.Machine
end

section
/-! The places of the Notice Queue (R145), kept by every event that raises a notice. -/

-- One proof after another: side by side, each waiting thread takes a stack of its own.
set_option Elab.async false

namespace Sys2Proof.Machine

/-! ## The Notice Queue stays within its places (R145) -/

/-- The bounds of `NoticesBounded` on a queue of notices, as counts. -/
structure PlacesKept (queue : List Notice) : Prop where
  ordinary : queue.countP (fun n => !n.isLoss) ≤ 15
  loss : queue.countP (fun n => n.kind == .noticeLoss) ≤ 1
  queueDrop : ∀ q : Byte, queue.countP (fun n => n.kind == .queueDrop && n.subject == q) ≤ 1
  poolDrop : queue.countP (fun n => n.kind == .poolDrop) ≤ 1

theorem noticesBounded_iff (s : State) : NoticesBounded s ↔ PlacesKept s.notices := by
  simp only [NoticesBounded, ordinaryCount, ← List.countP_eq_length_filter]
  exact ⟨fun ⟨h1, h2, h3, h4⟩ => ⟨h1, h2, h3, h4⟩, fun ⟨h1, h2, h3, h4⟩ => ⟨h1, h2, h3, h4⟩⟩

/-- A queue with some notices taken from it keeps its places. -/
theorem PlacesKept.sublist {l m : List Notice} (h : PlacesKept l) (hm : m.Sublist l) : PlacesKept m :=
  ⟨hm.countP_le.trans h.ordinary, hm.countP_le.trans h.loss, fun q => hm.countP_le.trans (h.queueDrop q),
    hm.countP_le.trans h.poolDrop⟩

/-- Counting a raise in a notice's Detail changes no kind and no Subject, and so no count of notices (R148). -/
theorem PlacesKept.bump {l : List Notice} (h : PlacesKept l) (g : Notice → Bool) :
    PlacesKept (l.map fun p => if g p then p.bump else p) := by
  have hcount (p : Notice → Bool) (hp : ∀ n : Notice, p n.bump = p n) :
      (l.map fun n => if g n then n.bump else n).countP p = l.countP p := by
    rw [List.countP_map]
    refine List.countP_congr fun n _ => ?_
    by_cases hg : g n <;> simp [hg, hp]
  refine ⟨?_, ?_, fun q => ?_, ?_⟩
  · rw [hcount _ fun _ => rfl]; exact h.ordinary
  · rw [hcount _ fun _ => rfl]; exact h.loss
  · rw [hcount _ fun _ => rfl]; exact h.queueDrop q
  · rw [hcount _ fun _ => rfl]; exact h.poolDrop

/-- A lost notice is counted in the one NOTICE_LOSS (R149). -/
theorem PlacesKept.recordLoss {l : List Notice} (h : PlacesKept l) : PlacesKept (recordLoss l) := by
  unfold Machine.recordLoss
  split
  · exact h.bump _
  · next hnone =>
    have hzero : l.countP (fun n => n.kind == .noticeLoss) = 0 :=
      List.countP_eq_zero.2 fun n hn hk => hnone (List.any_eq_true.2 ⟨n, hn, hk⟩)
    refine ⟨?_, ?_, fun q => ?_, ?_⟩ <;> rw [List.countP_append]
    · exact h.ordinary
    · rw [hzero]; exact le_rfl
    · exact h.queueDrop q
    · exact h.poolDrop

/-- An ordinary notice that finds a place and gathers with none enters (R147). -/
theorem PlacesKept.enter {l : List Notice} (h : PlacesKept l) {n : Notice} (hn : n.kind ≠ .noticeLoss)
    (hgather : l.any n.gathers = false) (hroom : l.countP (fun p => !p.isLoss) < 15) : PlacesKept (l ++ [n]) := by
  have hnone (p : Notice) (hp : p ∈ l) : n.gathers p = false := by
    simpa using List.any_eq_false.1 hgather p hp
  refine ⟨?_, ?_, fun q => ?_, ?_⟩ <;> rw [List.countP_append, List.countP_singleton]
  · split <;> omega
  · rw [if_neg (by simpa using hn)]
    exact h.loss
  · split
    · next hk =>
      simp only [Bool.and_eq_true, beq_iff_eq] at hk
      obtain ⟨hkind, rfl⟩ := hk
      have hzero : l.countP (fun p => p.kind == .queueDrop && p.subject == n.subject) = 0 :=
        List.countP_eq_zero.2 fun p hp hg => by simpa [Notice.gathers, hkind, hg] using hnone p hp
      omega
    · exact h.queueDrop q
  · split
    · next hk =>
      have hzero : l.countP (fun p => p.kind == .poolDrop) = 0 :=
        List.countP_eq_zero.2 fun p hp hg => by simpa [Notice.gathers, beq_iff_eq.1 hk, hg] using hnone p hp
      omega
    · exact h.poolDrop

/-- A raised notice, other than a NOTICE_LOSS, keeps the places of the queue (R147). -/
theorem PlacesKept.offer {l : List Notice} (h : PlacesKept l) (mask : NoticeMask) {n : Notice}
    (hn : n.kind ≠ .noticeLoss) : PlacesKept (offerNotice mask l n) := by
  have hordinary : ordinaryCount l = l.countP (fun p => !p.isLoss) := List.countP_eq_length_filter.symm
  rcases offerNotice_cases mask l n with e | ⟨-, e⟩ | ⟨-, e⟩ | ⟨hg, hroom, e⟩ <;> rw [e]
  · exact h
  · exact h.bump _
  · exact h.recordLoss
  · exact h.enter hn hg (hordinary ▸ hroom)

theorem PlacesKept.raise {s : State} (h : PlacesKept s.notices) {n : Notice} (hn : n.kind ≠ .noticeLoss) :
    PlacesKept (s.raise n).notices :=
  h.offer s.noticeMask hn

theorem PlacesKept.raiseAll {ns : List Notice} (hns : ∀ n ∈ ns, n.kind ≠ .noticeLoss) :
    ∀ {s : State}, PlacesKept s.notices → PlacesKept (s.raiseAll ns).notices := by
  induction ns with
  | nil => exact fun h => h
  | cons n ns ih =>
    intro s h
    rw [State.raiseAll_cons]
    exact ih (fun m hm => hns m (List.mem_cons_of_mem n hm)) (h.raise (hns n List.mem_cons_self))

/-! No event raises NOTICE_LOSS: only a lost notice brings it (R149). -/

theorem Context.gated_kind {c : Context} {m : Notice} (hm : m.kind ≠ .noticeLoss) :
    ∀ n ∈ c.gated m, n.kind ≠ .noticeLoss := by
  unfold Context.gated
  split <;> simp [hm]

theorem upNotices_kind (link : Link) (m : LineMonitor) (x : Byte) :
    ∀ n ∈ upNotices link m x, n.kind ≠ .noticeLoss := by
  unfold upNotices
  split <;> simp [lineChange]

theorem limitExpiry_kind (ch : Channel) (limit : Nat) (c : Context) :
    ∀ n ∈ (limitExpiry ch limit c).2, n.kind ≠ .noticeLoss := by
  unfold limitExpiry
  dsimp only
  split
  · simp
  · exact Context.gated_kind (by simp [lateNotice])

theorem tickClaim_kind (ch : Channel) (c : Context) : ∀ n ∈ (tickClaim ch c).2, n.kind ≠ .noticeLoss := by
  have htick : ∀ n ∈ (tickLimit ch c).2, n.kind ≠ .noticeLoss := by
    unfold tickLimit
    split
    · exact limitExpiry_kind _ _ _
    · simp
  unfold tickClaim
  split
  · split
    · intro n hn
      rcases List.mem_append.1 hn with hn | hn
      · exact htick n hn
      · exact Context.gated_kind (by simp [silentNotice]) n hn
    · exact htick
  · simp

theorem settleWatch_kind (ch : Channel) (l : List Assignment) (c : Context) :
    ∀ n ∈ (settleWatch ch l c).2, n.kind ≠ .noticeLoss := by
  unfold settleWatch
  split
  · simp
  · split
    · simp
    · split
      · exact limitExpiry_kind _ _ _
      · simp

theorem heartbeat_kind (ch : Channel) (st : ChannelState) (c : Context) :
    ∀ n ∈ (heartbeat ch st c).2, n.kind ≠ .noticeLoss := by
  unfold heartbeat
  split
  case h_5 => exact Context.gated_kind (by simp [revivedNotice])
  all_goals simp

theorem chainStep_kind (bank : Bank) (now : Word32) (r : UpRecord) (c : Context) :
    ∀ n ∈ (chainStep bank now r c).notices, n.kind ≠ .noticeLoss := by
  unfold chainStep
  split
  · simp
  · split
    · dsimp only
      split
      · exact Context.gated_kind (by simp [chainDoneNotice])
      · simp
    · simp

theorem judge_kind (bank : Bank) (g : Byte) (now : Word32) (swap : SwapState) (r : UpRecord) (c : Context) :
    ∀ n ∈ (judge bank g now swap r c).notices, n.kind ≠ .noticeLoss := by
  unfold judge
  split
  · simp [judgeClosed]
  · exact heartbeat_kind _ _ _
  · intro n hn
    rcases List.mem_append.1 hn with hn | hn
    · exact chainStep_kind _ _ _ _ n hn
    · unfold openHeartbeat at hn
      split at hn
      · exact heartbeat_kind _ _ _ n hn
      · cases hn

theorem dropNotices_kind (s : State) (d : Disposal) : ∀ n ∈ s.dropNotices d, n.kind ≠ .noticeLoss := by
  unfold State.dropNotices
  split
  · split <;> simp [queueDropNotice]
  · simp

theorem swapDoneNotice_kind (t : SwapTrigger) (g : Byte) (l : BankId) : (swapDoneNotice t g l).kind ≠ .noticeLoss := by
  cases t <;> simp [swapDoneNotice]

/-! Each event that raises notices keeps the places. -/

theorem PlacesKept.performSwap {s : State} (h : PlacesKept s.notices) (t : SwapTrigger) :
    PlacesKept (s.performSwap t).notices :=
  h.offer s.noticeMask (swapDoneNotice_kind t _ _)

theorem PlacesKept.swapAtCompletion {s : State} (h : PlacesKept s.notices) (w : SwapState) (marker : Bool)
    (ch : Channel) : PlacesKept (s.swapAtCompletion w marker ch).notices := by
  unfold State.swapAtCompletion
  split
  · exact h
  · exact h.performSwap _
  · split
    · exact h.performSwap _
    · exact h

theorem PlacesKept.completeClassification {s : State} (h : PlacesKept s.notices) :
    PlacesKept (completeClassification s).notices := by
  unfold Machine.completeClassification
  split
  · exact h
  · split
    · refine swapAtCompletion (raiseAll (fun n hn => ?_) ?_) ..
      · rcases List.mem_append.1 hn with hn | hn
        · exact judge_kind _ _ _ _ _ _ n hn
        · exact dropNotices_kind _ _ n hn
      · rw [State.setContext_notices, State.dispose_notices]
        exact h
    · exact h

/-- The field receiver raises nothing but POOL_DROP (R22). -/
theorem fieldReceive_notices (m : LineMonitor) (last : Option Byte) (x : Byte) (s : State) :
    (fieldReceive m last x s).notices = s.notices
      ∨ (fieldReceive m last x s).notices = offerNotice s.noticeMask s.notices poolDropNotice := by
  unfold fieldReceive startFieldRecord fieldLength completeFieldRecord releaseFieldSlot storeFieldByte judgeFieldRecord
    admitFieldRecord
  repeat' split
  all_goals first
    | exact .inl rfl
    | exact .inr rfl

theorem PlacesKept.fieldByte {s : State} (h : PlacesKept s.notices) (x : Byte) : PlacesKept (fieldByte x s).notices := by
  refine raiseAll (upNotices_kind _ _ _) ?_
  rcases fieldReceive_notices s.fieldMonitor s.fieldRx.last x { s with
      fieldMonitor := s.fieldMonitor.receive x, fieldRx := { s.fieldRx with last := some x } } with e | e <;> rw [e]
  · exact h
  · exact h.offer _ (by simp [poolDropNotice])

theorem PlacesKept.uplinkByte {s : State} (h : PlacesKept s.notices) (x : Byte) :
    PlacesKept (uplinkByte x s).notices := by
  refine raiseAll (upNotices_kind _ _ _) ?_
  rw [uplinkReceive_frame]
  exact h

@[simp] theorem releaseFieldSlot_notices (slot : Option SlotId) (s : State) :
    (releaseFieldSlot slot s).notices = s.notices := by
  cases slot <;> rfl

@[simp] theorem abortField_notices (s : State) : (abortField s).notices = s.notices := by
  unfold abortField
  split
  · rfl
  · exact releaseFieldSlot_notices ..

@[simp] theorem abortUplink_notices (s : State) : (abortUplink s).notices = s.notices := by
  unfold abortUplink
  split <;> rfl

theorem PlacesKept.loseLine {s : State} (h : PlacesKept s.notices) (link : Link) :
    PlacesKept (loseLine link s).notices := by
  have hkind : (lineChange link false).kind ≠ .noticeLoss := by simp [lineChange]
  cases link <;> unfold Machine.loseLine <;> dsimp only <;> split
  · exact raise (by rw [abortField_notices]; exact h) hkind
  · exact h
  · exact raise (by rw [abortUplink_notices]; exact h) hkind
  · exact h

theorem PlacesKept.takeTickClaim {s : State} (h : PlacesKept s.notices) (ch : Channel) :
    PlacesKept (takeTickClaim ch s).notices := by
  unfold Machine.takeTickClaim
  split
  · exact raiseAll (tickClaim_kind _ _) h
  · exact h

theorem PlacesKept.modifyNext {s : State} (h : PlacesKept s.notices) : PlacesKept (modifyNext s).notices := by
  unfold Machine.modifyNext
  split
  · dsimp only
    split <;> exact raiseAll (settleWatch_kind _ _ _) h
  · exact h

@[simp] theorem grantSlot_notices (q : QueueId) (s : State) : (grantSlot q s).notices = s.notices := by
  unfold grantSlot
  split
  · rfl
  · split <;> rfl

/-- A grant takes at most the head of the Notice Queue (R140). -/
theorem grant_notices (s : State) : (grant s).notices.Sublist s.notices := by
  unfold grant
  split
  · unfold grantBest
    split
    · exact List.Sublist.refl _
    · split
      · next n rest hn =>
        rw [hn]
        exact List.sublist_cons_self n rest
      · split
        · next q _ => rw [grantSlot_notices]
        · exact List.Sublist.refl _
  · exact List.Sublist.refl _

theorem PlacesKept.answerArmNext {s : State} (h : PlacesKept s.notices) (r : Request) :
    PlacesKept (answerArmNext r s).notices := by
  unfold Machine.answerArmNext
  rcases answerChecked_cases (validArmNext r.params) r s _ with ⟨e, -, hv⟩ | ⟨a, -, hv⟩ <;> rw [hv]
  · exact h
  · split
    · exact h
    · unfold armNext
      split
      · exact performSwap h _
      · exact h

theorem placesKept_restarted (n : Notice) (hn : n.kind = .restarted) : PlacesKept [n] := by
  refine ⟨?_, ?_, fun q => ?_, ?_⟩ <;> simp [hn, Notice.isLoss]

theorem PlacesKept.answerRestart {s : State} (h : PlacesKept s.notices) (r : Request) :
    PlacesKept (answerRestart r s).notices := by
  unfold Machine.answerRestart
  rcases answerChecked_cases (validEmpty r.params) r s _ with ⟨e, -, hv⟩ | ⟨a, -, hv⟩ <;> rw [hv]
  · exact h
  · exact placesKept_restarted restartedCommand rfl

theorem noticesBounded_kept : KeptByStep NoticesBounded := by
  refine .of_items [.notices] (by simp) (fun s t hs hi => ?_) (fun s hi => hi) ?_
  · have hn : t.notices = s.notices := hs .notices (by simp)
    rw [noticesBounded_iff, hn]
    exact (noticesBounded_iff s).1 hi
  rintro c s t ⟨x, hx, hw⟩ hi h
  rw [List.mem_singleton] at hx
  subst hx
  rw [noticesBounded_iff] at hi ⊢
  have hlive {next : State} (h : live s next = .next t) (hnext : PlacesKept next.notices) : PlacesKept t.notices :=
    of_live (P := fun u => PlacesKept u.notices) h hi hnext
  cases c
  case powerOnReset =>
    cases h
    exact ⟨by simp [State.reset], by simp [State.reset], by simp [State.reset], by simp [State.reset]⟩
  case resetRelease startOpen =>
    simp only [exec, execResetRelease, Host.Outcome.next.injEq] at h
    subst h
    split
    · exact placesKept_restarted restartedPowerOn rfl
    · exact hi
  case byteReceived link y =>
    cases link
    · exact hlive h (hi.fieldByte y)
    · exact hlive h (hi.uplinkByte y)
  case lineDown link => exact hlive h (hi.loseLine link)
  case watchTick ch => exact hlive h (hi.takeTickClaim ch)
  case limitExpiry ch =>
    refine hlive h ?_
    split
    · exact hi.takeTickClaim ch
    · exact hi
  case silenceExpiry ch =>
    refine hlive h ?_
    split
    · exact hi.takeTickClaim ch
    · exact hi
  case classifyComplete => exact hlive h hi.completeClassification
  case uplinkGrant => exact hlive h (hi.sublist (grant_notices s))
  case modifyContextChannel => exact hlive h hi.modifyNext
  case armSwapNext =>
    exact of_row (P := fun u => PlacesKept u.notices) rfl h hi fun r rest _ _ _ =>
      PlacesKept.answerArmNext (s := { s with requestFifo := rest }) hi r
  case restartTraffic =>
    exact of_row (P := fun u => PlacesKept u.notices) rfl h hi fun r rest _ _ _ =>
      PlacesKept.answerRestart (s := { s with requestFifo := rest }) hi r
  all_goals simp [writtenBy, Item.ofAnswer] at hw

end Sys2Proof.Machine
end

section
/-! The events of the engine, and the capacities of the FIFOs and of the Response List (R33, R142, R153). -/

-- One proof after another: side by side, each waiting thread takes a stack of its own.
set_option Elab.async false

namespace Sys2Proof.Machine

/-! ## What the engine's events leave (R137, R143, R154) -/

/-- A long operation runs (R137). -/
def Engine.isLong : Engine → Bool
  | .copying _ _ => true
  | .clearing _ _ => true
  | _ => false

theorem longUnarmed_iff (s : State) : LongUnarmed s ↔ (s.engine.isLong = true → s.swap = .idle) := by
  cases he : s.engine <;> simp [LongUnarmed, he, Engine.isLong]

/-- An event of the engine: no list but the Response List grows, and the engine answers with one response and becomes IDLE, or
stays or becomes BUSY without one, a long operation under no armed swap. -/
structure EngineEvent (s t : State) : Prop where
  requestFifo : t.requestFifo = s.requestFifo
  outbound : t.outbound.length ≤ s.outbound.length
  outcome : (t.engine = .idle ∧ t.responses.length ≤ s.responses.length + 1)
    ∨ (t.responses = s.responses ∧ (t.engine.isLong = true → t.swap = .idle))

/-- The response to the request in hand, on a state that has left the lists as they were. -/
theorem EngineEvent.respond {s t : State} {r : Request} {status : Status} {bytes : List Byte}
    (h : t.requestFifo = s.requestFifo ∧ t.outbound = s.outbound ∧ t.responses = s.responses := by simp) :
    EngineEvent s (t.respond r status bytes) := by
  obtain ⟨hf, ho, hr⟩ := h
  exact ⟨hf, (congrArg List.length ho).le,
    .inl ⟨rfl, by rw [State.respond_responses, hr, List.length_append, List.length_singleton]⟩⟩

theorem EngineEvent.checked {α : Type} {v : Except Status α} {r : Request} {s : State} {act : α → State}
    (h : ∀ a, EngineEvent s (act a)) : EngineEvent s (answerChecked v r s act) := by
  rcases answerChecked_cases v r s act with ⟨e, -, hv⟩ | ⟨a, -, hv⟩ <;> rw [hv]
  · exact .respond
  · exact h a

/-- The engine goes on with a range request. -/
theorem EngineEvent.goOn {s t : State} (he : t.engine.isLong = false)
    (h : t.requestFifo = s.requestFifo ∧ t.outbound = s.outbound ∧ t.responses = s.responses := by simp) :
    EngineEvent s t := by
  obtain ⟨hf, ho, hr⟩ := h
  exact ⟨hf, (congrArg List.length ho).le, .inr ⟨hr, fun hlong => absurd hlong (by simp [he])⟩⟩

theorem EngineEvent.duplicate {s : State} (he : s.engine = .idle) (r : Request) : EngineEvent s (answerDuplicate r s) := by
  refine ⟨rfl, le_rfl, .inl ⟨he, ?_⟩⟩
  simp only [answerDuplicate, List.length_append]
  cases s.stored <;> simp

theorem EngineEvent.writer {α : Type} (v : Except Status α) (write : α → Bank → Bank) (r : Request) (s : State) :
    EngineEvent s (answerWriter v write r s) := by
  refine .checked fun a => ?_
  split
  · exact .respond
  · exact .respond

theorem SwapState.armed_eq_false {w : SwapState} (h : ¬ w.armed = true) : w = .idle := by
  cases w with
  | idle => rfl
  | armedNext => exact absurd rfl h
  | armedMarker i => exact absurd rfl h

/-- A long operation begins under no armed swap (R136). -/
theorem EngineEvent.long (busy : Engine) (r : Request) (s : State) : EngineEvent s (beginLong busy r s) := by
  refine .checked fun _ => ?_
  split
  · exact .respond
  · next hw => exact ⟨rfl, le_rfl, .inr ⟨rfl, fun _ => SwapState.armed_eq_false hw⟩⟩

theorem EngineEvent.armNext (r : Request) (s : State) : EngineEvent s (answerArmNext r s) := by
  refine .checked fun _ => ?_
  split
  · exact .respond
  · unfold Machine.armNext
    split
    · exact ⟨rfl, le_rfl, .inl ⟨rfl, by simp⟩⟩
    · exact .respond

theorem EngineEvent.armMarker (r : Request) (s : State) : EngineEvent s (answerArmMarker r s) := by
  refine .checked fun _ => ?_
  split
  · exact .respond
  · split
    · exact .respond
    · exact .respond

theorem EngineEvent.cancel (r : Request) (s : State) : EngineEvent s (answerCancel r s) := by
  refine .checked fun _ => ?_
  split
  · exact .respond
  · exact .respond

theorem EngineEvent.readCounters (r : Request) (s : State) : EngineEvent s (answerReadCounters r s) := by
  refine .checked fun q => ?_
  split
  · split <;> exact .respond
  · split <;> exact .respond

theorem EngineEvent.restart (r : Request) (s : State) : EngineEvent s (answerRestart r s) :=
  .checked fun _ => ⟨rfl, Nat.zero_le _, .inl ⟨rfl, by simp [restartOwners]⟩⟩

/-- Every request row is an event of the engine. -/
theorem engineEvent_of_row {c : Instr} {act : Request → State → State} (hc : rowAct c = some act) {s : State}
    (he : s.engine = .idle) (r : Request) : EngineEvent s (act r s) := by
  cases c <;> cases hc
  case duplicateRequest => exact .duplicate he r
  case unknownCommandRequest => exact .respond
  case modifyContext => exact .checked fun _ => .goOn rfl
  case ackWatch => exact .checked fun _ => .goOn rfl
  case writeRules => exact .writer ..
  case writeChain => exact .writer ..
  case writeMap => exact .writer ..
  case setDefaultVerdict => exact .writer ..
  case copyBank => exact .long ..
  case clearStaging => exact .long ..
  case armSwapNext => exact .armNext ..
  case armSwapMarker => exact .armMarker ..
  case cancelSwap => exact .cancel ..
  case readCounters => exact .readCounters ..
  case readCountersClear => exact .readCounters ..
  case restartTraffic => exact .restart ..
  all_goals exact .checked fun _ => .respond

theorem modifyNext_cases (s : State) : modifyNext s = s ∨ (s.engine ≠ .idle ∧ EngineEvent s (modifyNext s)) := by
  unfold modifyNext
  split
  · next he =>
    refine .inr ⟨by simp [he], ?_⟩
    dsimp only
    split
    · exact .respond
    · exact .goOn rfl
  · exact .inl rfl

theorem ackNext_cases (s : State) : ackNext s = s ∨ (s.engine ≠ .idle ∧ EngineEvent s (ackNext s)) := by
  unfold ackNext
  split
  · next he =>
    refine .inr ⟨by simp [he], ?_⟩
    dsimp only
    split
    · exact .respond
    · exact .goOn rfl
  · exact .inl rfl

theorem completeCopy_cases (s : State) : completeCopy s = s ∨ (s.engine ≠ .idle ∧ EngineEvent s (completeCopy s)) := by
  unfold completeCopy
  split
  · next he => exact .inr ⟨by simp [he], .respond⟩
  · exact .inl rfl

theorem completeClear_cases (s : State) :
    completeClear s = s ∨ (s.engine ≠ .idle ∧ EngineEvent s (completeClear s)) := by
  unfold completeClear
  split
  · next he => exact .inr ⟨by simp [he], .respond⟩
  · exact .inl rfl

/-! ## The lists stay within their capacities (R33, R142, R143, R153) -/

theorem ListsBounded.same {s t : State} (hi : ListsBounded s) (ho : t.outbound = s.outbound)
    (hf : t.requestFifo = s.requestFifo) (hr : t.responses = s.responses) (he : t.engine = s.engine) :
    ListsBounded t := by
  rw [ListsBounded, ho, hf, hr, he]
  exact hi

/-- An event of the engine that finds a place for the response keeps the lists within their capacities. -/
theorem EngineEvent.listsBounded {s t : State} (h : EngineEvent s t) (ho : s.outbound.length ≤ 16)
    (hf : s.requestFifo.length ≤ 4) (hr : s.responses.length < 4) : ListsBounded t := by
  refine ⟨h.outbound.trans ho, h.requestFifo ▸ hf, ?_, fun he => ?_⟩ <;>
    rcases h.outcome with ⟨hidle, hlen⟩ | ⟨hsame, -⟩
  · omega
  · rw [hsame]
    exact hr.le
  · exact absurd hidle he
  · rw [hsame]
    exact hr

/-- A busy engine has kept a place for its response, so that its next event keeps the capacities. -/
theorem ListsBounded.of_engine {s t : State} (hi : ListsBounded s) (h : t = s ∨ (s.engine ≠ .idle ∧ EngineEvent s t)) :
    ListsBounded t := by
  rcases h with rfl | ⟨he, h⟩
  · exact hi
  · exact h.listsBounded hi.1 hi.2.1 (hi.2.2.2 he)

/-- The two FIFOs that the uplink receiver fills are within their capacities (R33, R153). -/
def FifosBounded (s : State) : Prop := s.outbound.length ≤ 16 ∧ s.requestFifo.length ≤ 4

theorem FifosBounded.appendOutbound {s : State} (hi : FifosBounded s) (d : DownRecord) :
    FifosBounded (appendOutbound d s) := by
  unfold Machine.appendOutbound
  split
  · next hroom => exact ⟨(List.length_append ..).trans_le hroom, hi.2⟩
  · exact hi

theorem FifosBounded.appendRequest {s : State} (hi : FifosBounded s) (r : Request) :
    FifosBounded (appendRequest r s) := by
  unfold Machine.appendRequest
  split
  · next hroom => exact ⟨hi.1, (List.length_append ..).trans_le hroom⟩
  · exact hi

theorem FifosBounded.completeUplinkRecord {s : State} (hi : FifosBounded s) (c : RecordClass) (bytes : List Byte)
    (hb lb : Byte) : FifosBounded (completeUplinkRecord c bytes hb lb s) := by
  have hgood : FifosBounded s.uplinkGood := hi
  unfold Machine.completeUplinkRecord
  split
  · split
    · unfold dispatchDown
      split
      · exact hgood.appendOutbound _
      · exact hi
    · exact hi
  · split
    · exact hgood.appendRequest _
    · exact hi
  · exact hi

/-- The uplink receiver appends to a FIFO only below its capacity (R12). -/
theorem FifosBounded.uplinkReceive {s : State} (hi : FifosBounded s) (m : LineMonitor) (last : Option Byte) (x : Byte) :
    FifosBounded (uplinkReceive m last x s) := by
  cases hp : s.uplinkRx.phase with
  | hunt =>
    rw [uplinkReceive_hunt hp]
    split <;> exact hi
  | classByte =>
    rw [uplinkReceive_class hp, judgeClass]
    split <;> exact hi
  | header c got =>
    simp only [Machine.uplinkReceive, hp, uplinkHeaderEnd]
    repeat' split
    all_goals exact hi
  | body c left =>
    rw [uplinkReceive_body hp]
    exact hi
  | check c first =>
    cases first with
    | none =>
      rw [uplinkReceive_firstCheck hp]
      exact hi
    | some b =>
      rw [uplinkReceive_lastCheck hp]
      exact hi.completeUplinkRecord c _ b x

theorem ListsBounded.uplinkByte {s : State} (hi : ListsBounded s) (x : Byte) : ListsBounded (uplinkByte x s) := by
  obtain ⟨ho, hf, hr, he⟩ := hi
  have hlists := FifosBounded.uplinkReceive (s := { s with
    uplinkMonitor := s.uplinkMonitor.receive x, uplinkRx := { s.uplinkRx with last := some x } }) ⟨ho, hf⟩
    s.uplinkMonitor s.uplinkRx.last x
  have hrest := uplinkByte_frame s x
  refine ⟨?_, ?_, ?_, ?_⟩
  · simpa [Machine.uplinkByte] using hlists.1
  · simpa [Machine.uplinkByte] using hlists.2
  · rw [hrest]; exact hr
  · rw [hrest]; exact he

theorem ListsBounded.startFieldSend {s : State} (hi : ListsBounded s) : ListsBounded (startFieldSend s) := by
  unfold Machine.startFieldSend
  split
  · next d rest _ ho =>
    have hrest : rest.length ≤ 16 := by
      have := hi.1
      rw [ho, List.length_cons] at this
      omega
    repeat' split
    · exact ⟨hrest, hi.2⟩
    · exact ⟨hrest, hi.2⟩
    · exact hi
  · exact hi

/-- A grant takes at most the head of the Response List (R140). -/
theorem grant_responses (s : State) : (grant s).responses.Sublist s.responses := by
  unfold grant
  split
  · unfold grantBest
    split
    · next p rest hp =>
      rw [hp]
      exact List.sublist_cons_self p rest
    · split
      · exact List.Sublist.refl _
      · split
        · unfold grantSlot
          repeat' split
          all_goals exact List.Sublist.refl _
        · exact List.Sublist.refl _
  · exact List.Sublist.refl _

theorem ListsBounded.grant {s : State} (hi : ListsBounded s) : ListsBounded (grant s) := by
  obtain ⟨ho, hf, hr, he⟩ := hi
  have hlen := (grant_responses s).length_le
  have hrest := grant_frame s
  refine ⟨by rw [hrest]; exact ho, by rw [hrest]; exact hf, hlen.trans hr, fun h => hlen.trans_lt (he ?_)⟩
  rw [hrest] at h
  exact h

/-- A microsecond makes no engine BUSY or IDLE, and begins no long operation. -/
theorem Engine.elapse_eq_idle (e : Engine) : e.elapse = .idle ↔ e = .idle := by
  cases e <;> simp [Engine.elapse]

theorem Engine.elapse_isLong (e : Engine) : e.elapse.isLong = e.isLong := by
  cases e <;> rfl

theorem listsBounded_kept : KeptByStep ListsBounded := by
  refine .of_items [.outbound, .requestFifo, .responses, .engine] (by simp) (fun s t hs hi => ?_) (fun s hi => ?_) ?_
  · exact hi.same (hs .outbound (by simp)) (hs .requestFifo (by simp)) (hs .responses (by simp)) (hs .engine (by simp))
  · obtain ⟨ho, hf, hr, he⟩ := hi
    exact ⟨ho, hf, hr, fun h => he fun hidle => h ((Engine.elapse_eq_idle _).2 hidle)⟩
  intro c s t hw hi h
  cases hrow : rowAct c with
  | some act =>
    refine of_row hrow h hi fun r rest hf he hr => ?_
    have hrest : rest.length ≤ 4 := by
      have := hi.2.1
      rw [hf, List.length_cons] at this
      omega
    exact (engineEvent_of_row (s := { s with requestFifo := rest }) hrow he r).listsBounded hi.1 hrest hr
  | none =>
    cases c
    case powerOnReset =>
      cases h
      exact ⟨by simp [State.reset], by simp [State.reset], by simp [State.reset], fun _ => by simp [State.reset]⟩
    case byteReceived link y =>
      cases link
      · simp [writtenBy] at hw
      · exact of_live h hi (hi.uplinkByte y)
    case fieldTransmitStart => exact of_live h hi hi.startFieldSend
    case uplinkGrant => exact of_live h hi hi.grant
    case modifyContextChannel => exact of_live h hi (hi.of_engine (modifyNext_cases s))
    case ackWatchChannel => exact of_live h hi (hi.of_engine (ackNext_cases s))
    case copyBankComplete => exact of_live h hi (hi.of_engine (completeCopy_cases s))
    case clearStagingComplete => exact of_live h hi (hi.of_engine (completeClear_cases s))
    case lineDown link => cases link <;> simp [writtenBy] at hw
    all_goals simp [writtenBy, rowAct] at hw hrow

end Sys2Proof.Machine
end

section
/-! The modes that every step keeps (R5, R137), and the capacities and modes together. -/

-- One proof after another: side by side, each waiting thread takes a stack of its own.
set_option Elab.async false

namespace Sys2Proof.Machine

/-! ## No swap is armed while a long operation runs (R137) -/

/-- A completion arms no swap. -/
theorem completeClassification_swap {s : State} (h : s.swap = .idle) : (completeClassification s).swap = .idle := by
  unfold completeClassification
  split
  · exact h
  · split
    · simp [completeRecord, State.swapAtCompletion, h]
    · exact h

theorem longUnarmed_kept : KeptByStep LongUnarmed := by
  refine .of_items [.engine, .swap] (by simp) (fun s t hs hi => ?_) (fun s hi => ?_) ?_
  · have he : t.engine = s.engine := hs .engine (by simp)
    have hw : t.swap = s.swap := hs .swap (by simp)
    rw [longUnarmed_iff, he, hw]
    exact (longUnarmed_iff s).1 hi
  · rw [longUnarmed_iff] at hi ⊢
    exact fun hlong => hi (s.engine.elapse_isLong ▸ hlong)
  intro c s t hw hi h
  have hevent {u v : State} (huv : EngineEvent u v) : LongUnarmed v := by
    rw [longUnarmed_iff]
    intro hlong
    rcases huv.outcome with ⟨hidle, -⟩ | ⟨-, hunarmed⟩
    · rw [hidle] at hlong
      cases hlong
    · exact hunarmed hlong
  have hnext {next : State} (hcases : next = s ∨ (s.engine ≠ .idle ∧ EngineEvent s next)) : LongUnarmed next := by
    rcases hcases with rfl | ⟨-, hev⟩
    · exact hi
    · exact hevent hev
  cases hrow : rowAct c with
  | some act =>
    exact of_row hrow h hi fun r rest _ he _ => hevent (engineEvent_of_row (s := { s with requestFifo := rest }) hrow he r)
  | none =>
    cases c
    case powerOnReset =>
      cases h
      exact trivial
    case classifyComplete =>
      refine of_live h hi ?_
      have hengine : (completeClassification s).engine = s.engine := by rw [completeClassification_frame]
      rw [longUnarmed_iff, hengine] at *
      exact fun hlong => completeClassification_swap (hi hlong)
    case modifyContextChannel => exact of_live h hi (hnext (modifyNext_cases s))
    case ackWatchChannel => exact of_live h hi (hnext (ackNext_cases s))
    case copyBankComplete => exact of_live h hi (hnext (completeCopy_cases s))
    case clearStagingComplete => exact of_live h hi (hnext (completeClear_cases s))
    case byteReceived link y => cases link <;> simp [writtenBy] at hw
    case lineDown link => cases link <;> simp [writtenBy] at hw
    all_goals simp [writtenBy, rowAct] at hw hrow

/-! ## A DOWN line keeps its receiver in HUNT (R3, R5, R7) -/

/-- A byte takes no line DOWN. -/
theorem LineMonitor.receive_isUp {m : LineMonitor} {x : Byte} (h : (m.receive x).isUp = false) : m.isUp = false := by
  cases m with
  | down run => rfl
  | up n => exact h

theorem LineMonitor.elapse_isUp (m : LineMonitor) : m.elapse.isUp = m.isUp := by
  cases m <;> rfl

/-- On a DOWN line a receiver in HUNT takes no start code, and so stays in HUNT (R3). -/
theorem fieldByte_hunt {s : State} (hm : s.fieldMonitor.isUp = false) (hp : s.fieldRx.phase = .hunt) (x : Byte) :
    (fieldByte x s).fieldRx.phase = .hunt := by
  have hno : startsRecord s.fieldMonitor s.fieldRx.last x = false := by simp [startsRecord, hm]
  rw [fieldByte, State.raiseAll_fieldRx, fieldReceive_hunt (by exact hp), hno]
  exact hp

theorem uplinkByte_hunt {s : State} (hm : s.uplinkMonitor.isUp = false) (hp : s.uplinkRx.phase = .hunt) (x : Byte) :
    (uplinkByte x s).uplinkRx.phase = .hunt := by
  have hno : startsRecord s.uplinkMonitor s.uplinkRx.last x = false := by simp [startsRecord, hm]
  rw [uplinkByte, State.raiseAll_uplinkRx, uplinkReceive_hunt (by exact hp), hno]
  exact hp

theorem fieldByte_fieldMonitor (x : Byte) (s : State) : (fieldByte x s).fieldMonitor = s.fieldMonitor.receive x := by
  rw [fieldByte, State.raiseAll_fieldMonitor, fieldReceive_frame]

theorem uplinkByte_uplinkMonitor (x : Byte) (s : State) :
    (uplinkByte x s).uplinkMonitor = s.uplinkMonitor.receive x := by
  rw [uplinkByte, State.raiseAll_uplinkMonitor, uplinkReceive_frame]

theorem abortField_phase (s : State) : (abortField s).fieldRx.phase = .hunt := by
  cases hp : s.fieldRx.phase.reception with
  | none =>
    have hhunt : s.fieldRx.phase = .hunt := by cases h : s.fieldRx.phase <;> simp [FieldPhase.reception, h] at hp ⊢
    rw [abortField_hunt hhunt, hhunt]
  | some slot => rw [abortField_receiving hp]

theorem abortUplink_phase (s : State) : (abortUplink s).uplinkRx.phase = .hunt := by
  unfold abortUplink
  split
  · assumption
  · rfl

/-- A line loss changes nothing, or leaves its receiver in HUNT (R5). -/
theorem loseField_cases (s : State) : loseLine .field s = s ∨ (loseLine .field s).fieldRx.phase = .hunt := by
  unfold loseLine
  dsimp only
  split
  · exact .inr (abortField_phase _)
  · exact .inl rfl

theorem loseUplink_cases (s : State) : loseLine .uplink s = s ∨ (loseLine .uplink s).uplinkRx.phase = .hunt := by
  unfold loseLine
  dsimp only
  split
  · exact .inr (abortUplink_phase _)
  · exact .inl rfl

theorem DownLinesHunt.loseLine {s : State} (hi : DownLinesHunt s) (link : Link) : DownLinesHunt (loseLine link s) := by
  cases link with
  | field =>
    rcases loseField_cases s with h | h
    · rw [h]
      exact hi
    · refine ⟨fun _ => h, ?_⟩
      rw [loseFieldLine_frame]
      exact hi.2
  | uplink =>
    rcases loseUplink_cases s with h | h
    · rw [h]
      exact hi
    · refine ⟨?_, fun _ => h⟩
      rw [loseUplinkLine_frame]
      exact hi.1

theorem DownLinesHunt.fieldByte {s : State} (hi : DownLinesHunt s) (x : Byte) : DownLinesHunt (fieldByte x s) := by
  refine ⟨fun hdown => ?_, ?_⟩
  · have hm := LineMonitor.receive_isUp (fieldByte_fieldMonitor x s ▸ hdown)
    exact fieldByte_hunt hm (hi.1 hm) x
  · rw [fieldByte_frame]
    exact hi.2

theorem DownLinesHunt.uplinkByte {s : State} (hi : DownLinesHunt s) (x : Byte) : DownLinesHunt (uplinkByte x s) := by
  refine ⟨?_, fun hdown => ?_⟩
  · rw [uplinkByte_frame]
    exact hi.1
  · have hm := LineMonitor.receive_isUp (uplinkByte_uplinkMonitor x s ▸ hdown)
    exact uplinkByte_hunt hm (hi.2 hm) x

theorem downLinesHunt_kept : KeptByStep DownLinesHunt := by
  refine .of_items [.fieldMonitor, .uplinkMonitor, .fieldRx, .uplinkRx] (by simp) (fun s t hs hi => ?_)
    (fun s hi => ?_) ?_
  · have h1 : t.fieldMonitor = s.fieldMonitor := hs .fieldMonitor (by simp)
    have h2 : t.uplinkMonitor = s.uplinkMonitor := hs .uplinkMonitor (by simp)
    have h3 : t.fieldRx = s.fieldRx := hs .fieldRx (by simp)
    have h4 : t.uplinkRx = s.uplinkRx := hs .uplinkRx (by simp)
    rw [DownLinesHunt, h1, h2, h3, h4]
    exact hi
  · exact ⟨fun h => hi.1 (s.fieldMonitor.elapse_isUp ▸ h), fun h => hi.2 (s.uplinkMonitor.elapse_isUp ▸ h)⟩
  intro c s t hw hi h
  cases c
  case powerOnReset =>
    cases h
    exact ⟨fun _ => rfl, fun _ => rfl⟩
  case byteReceived link x =>
    cases link with
    | field => exact of_live h hi (hi.fieldByte x)
    | uplink => exact of_live h hi (hi.uplinkByte x)
  case lineDown link => exact of_live h hi (hi.loseLine link)
  all_goals simp [writtenBy, Item.ofAnswer] at hw

/-- Settles O56: each invariant is kept on its own items. -/
theorem capacitiesAndModesAreKept : Obligations.CapacitiesAndModesAreKept :=
  ⟨⟨queuesBounded_kept, listsBounded_kept, noticesBounded_kept⟩, downLinesHunt_kept, longUnarmed_kept⟩

end Sys2Proof.Machine
end

section
/-! The Slot Pool as a view of the state (R19, R20): the slots with the lists and the blocks that hold them, when they agree,
and how one event moves a slot. -/

-- One proof after another: side by side, each waiting thread takes a stack of its own.
set_option Elab.async false

namespace Sys2Proof.Machine

/-! ## The pool and its agreement (R19, R24, R26) -/

/-- The slots and everything that holds a slot: the Classify FIFO, the Forward Queues, the field receiver, the uplink
transmitter and the Classifier. -/
structure Pool where
  slots       : SlotId → Slot
  fifo        : List SlotId
  queues      : QueueId → List SlotId
  receiver    : Option SlotId
  sender      : Option SlotId
  classifying : Option SlotId

/-- The slot that the uplink transmitter sends. -/
def UplinkTransmitter.slot : UplinkTransmitter → Option SlotId
  | .sending (.slot i) _ _ => some i
  | _ => none

/-- The slot that the Classifier took. -/
def Classifier.slot : Classifier → Option SlotId
  | .busy i _ _ => some i
  | .idle => none

/-- The pool of a state. -/
def State.pool (s : State) : Pool where
  slots := s.slot
  fifo := s.classifyFifo
  queues := fun q => s.queues[q].slots
  receiver := s.fieldRx.phase.reception.join
  sender := s.uplinkTx.slot
  classifying := s.classifier.slot

/-- The lists and blocks of a pool hold slot `i` as contents `x` ask. -/
structure Pool.Agrees (p : Pool) (i : SlotId) (x : Slot) : Prop where
  waiting : i ∈ p.fifo ↔ x.isWaiting = true
  queued : ∀ q : QueueId, i ∈ p.queues q ↔ ∃ r up, x = .queued r q up
  receiving : (∃ r, x = .receiving r) ↔ p.receiver = some i
  sending : (∃ r q up, x = .sending r q up) ↔ p.sender = some i
  classifying : (∃ r, x = .waiting r true) ↔ p.classifying = some i

/-- The agreement of PoolSound, slot by slot. -/
structure Pool.Sound (p : Pool) : Prop where
  fifo_nodup : p.fifo.Nodup
  queue_nodup : ∀ q : QueueId, (p.queues q).Nodup
  head : ∀ i, p.classifying = some i → p.fifo.head? = some i
  agrees : ∀ i, p.Agrees i (p.slots i)

theorem UplinkTransmitter.slot_eq_some {tx : UplinkTransmitter} {i : SlotId} :
    tx.slot = some i ↔ ∃ bytes n, tx = .sending (.slot i) bytes n := by
  rcases tx with _ | ⟨_ | _ | k, bytes, n⟩ <;> simp [UplinkTransmitter.slot]

theorem Classifier.slot_eq_some {c : Classifier} {i : SlotId} : c.slot = some i ↔ ∃ bank g, c = .busy i bank g := by
  cases c <;> simp [Classifier.slot]

theorem poolSound_iff (s : State) : PoolSound s ↔ s.pool.Sound := by
  constructor
  · intro h
    refine ⟨h.fifo_nodup, h.queue_nodup, fun i hi => ?_, fun i => ⟨h.fifo_waiting i, fun q => h.queue_queued q i,
      (h.receiving i).trans Option.join_eq_some_iff.symm, (h.sending i).trans UplinkTransmitter.slot_eq_some.symm,
      (h.in_classification i).trans Classifier.slot_eq_some.symm⟩⟩
    obtain ⟨bank, g, hc⟩ := Classifier.slot_eq_some.1 hi
    exact h.in_flight_head i bank g hc
  · intro h
    exact ⟨h.fifo_nodup, fun i => (h.agrees i).waiting, h.queue_nodup, fun q i => (h.agrees i).queued q,
      fun i => (h.agrees i).receiving.trans Option.join_eq_some_iff,
      fun i => (h.agrees i).sending.trans UplinkTransmitter.slot_eq_some,
      fun i => (h.agrees i).classifying.trans Classifier.slot_eq_some,
      fun i bank g hc => h.head i (Classifier.slot_eq_some.2 ⟨bank, g, hc⟩)⟩

/-- The pool with every slot FREE. -/
def Pool.empty : Pool := ⟨fun _ => .free, [], fun _ => [], none, none, none⟩

theorem Pool.Sound.empty : Pool.empty.Sound :=
  ⟨List.nodup_nil, fun _ => List.nodup_nil, fun _ h => (nomatch h), fun _ =>
    ⟨by simp [Pool.empty, Slot.isWaiting], by simp [Pool.empty], by simp [Pool.empty], by simp [Pool.empty],
      by simp [Pool.empty]⟩⟩

theorem State.reset_pool : State.reset.pool = Pool.empty := by
  simp [State.pool, State.reset, Pool.empty, State.slot, FieldPhase.reception, UplinkTransmitter.slot, Classifier.slot,
    funext_iff]

/-! ## What one event does to the pool (R21 to R30) -/

/-- What the event of a command can do to the pool: nothing, or the move of one slot from one of its five states to the next,
with the lists and blocks that hold it; a restart and a reset move all slots. -/
inductive Pool.Move (p : Pool) : Instr → Pool → Prop where
  /-- No slot is moved. -/
  | stay {c : Instr} : Move p c p
  /-- A FREE slot is claimed for a field record (R21). -/
  | claim {c : Instr} (i : SlotId) (r : PartialRecord) (hslot : p.slots i = .free) (hrx : p.receiver = none) :
    Move p c { p with slots := Function.update p.slots i (.receiving r), receiver := some i }
  /-- A byte is written into the RECEIVING slot (R8). -/
  | store {c : Instr} (i : SlotId) (r r' : PartialRecord) (hslot : p.slots i = .receiving r) :
    Move p c { p with slots := Function.update p.slots i (.receiving r') }
  /-- The RECEIVING slot is released to FREE (R5, R9). -/
  | release {c : Instr} (i : SlotId) (r : PartialRecord) (hslot : p.slots i = .receiving r) :
    Move p c { p with slots := Function.update p.slots i .free, receiver := none }
  /-- A good record joins the Classify FIFO (R23). -/
  | enter {c : Instr} (i : SlotId) (r : PartialRecord) (u : UpRecord) (hslot : p.slots i = .receiving r) :
    Move p c { p with slots := Function.update p.slots i (.waiting u false), receiver := none, fifo := p.fifo ++ [i] }
  /-- The Classifier takes the head of the Classify FIFO (R24). -/
  | take {c : Instr} (i : SlotId) (r : UpRecord) (v : Bool) (hslot : p.slots i = .waiting r v)
    (hhead : p.fifo.head? = some i) (hidle : p.classifying = none) :
    Move p c { p with slots := Function.update p.slots i (.waiting r true), classifying := some i }
  /-- The classified record is dropped (R25). -/
  | drop {c : Instr} (i : SlotId) (r : UpRecord) (hslot : p.slots i = .waiting r true) :
    Move p c
      { p with slots := Function.update p.slots i .free, fifo := p.fifo.erase i, classifying := none }
  /-- The classified record joins a Forward Queue (R25). -/
  | enqueue {c : Instr} (i : SlotId) (r : UpRecord) (q : QueueId) (up : UpContents)
    (hslot : p.slots i = .waiting r true) :
    Move p c
      { p with
        slots := Function.update p.slots i (.queued r q up), fifo := p.fifo.erase i
        queues := Function.update p.queues q (p.queues q ++ [i]), classifying := none }
  /-- The head of a Forward Queue is granted the uplink transmitter (R26). -/
  | grant (i : SlotId) (rest : List SlotId) (r : UpRecord) (q : QueueId) (up : UpContents)
    (hslot : p.slots i = .queued r q up) (hhead : p.queues q = i :: rest) (hidle : p.sender = none) :
    Move p .uplinkGrant
      { p with
        slots := Function.update p.slots i (.sending r q up)
        queues := Function.update p.queues q rest, sender := some i }
  /-- The SENDING slot becomes FREE (R27). -/
  | finish {c : Instr} (i : SlotId) (r : UpRecord) (q : QueueId) (up : UpContents)
    (hslot : p.slots i = .sending r q up) :
    Move p c { p with slots := Function.update p.slots i .free, sender := none }
  /-- RESTART TRAFFIC frees the WAITING and QUEUED slots (R30). -/
  | restart :
    Move p .restartTraffic
      { p with slots := fun i => (p.slots i).restart, fifo := [], queues := fun _ => [], classifying := none }
  /-- POWER_ON_RESET frees every slot (R19). -/
  | reset : Move p .powerOnReset .empty

/-! ## Every move keeps the agreement -/

section

variable {p p' : Pool} {i j : SlotId} {x : Slot}

theorem Pool.agrees_iff : p.Agrees i x ↔
    (i ∈ p.fifo ↔ x.isWaiting = true) ∧ (∀ q : QueueId, i ∈ p.queues q ↔ ∃ r up, x = .queued r q up)
      ∧ ((∃ r, x = .receiving r) ↔ p.receiver = some i) ∧ ((∃ r q up, x = .sending r q up) ↔ p.sender = some i)
      ∧ ((∃ r, x = .waiting r true) ↔ p.classifying = some i) :=
  ⟨fun ⟨hw, hq, hr, hs, hc⟩ => ⟨hw, hq, hr, hs, hc⟩, fun ⟨hw, hq, hr, hs, hc⟩ => ⟨hw, hq, hr, hs, hc⟩⟩

/-- Nothing holds a FREE slot. -/
theorem Pool.agrees_free : p.Agrees i .free ↔
    i ∉ p.fifo ∧ (∀ q, i ∉ p.queues q) ∧ p.receiver ≠ some i ∧ p.sender ≠ some i ∧ p.classifying ≠ some i := by
  simp [agrees_iff, Slot.isWaiting]

/-- The field receiver alone holds a RECEIVING slot. -/
theorem Pool.agrees_receiving {r : PartialRecord} : p.Agrees i (.receiving r) ↔
    i ∉ p.fifo ∧ (∀ q, i ∉ p.queues q) ∧ p.receiver = some i ∧ p.sender ≠ some i ∧ p.classifying ≠ some i := by
  simp [agrees_iff, Slot.isWaiting]

/-- The Classify FIFO holds a WAITING slot, and so does the Classifier with In Classification YES. -/
theorem Pool.agrees_waiting {r : UpRecord} {v : Bool} : p.Agrees i (.waiting r v) ↔
    i ∈ p.fifo ∧ (∀ q, i ∉ p.queues q) ∧ p.receiver ≠ some i ∧ p.sender ≠ some i
      ∧ (v = true ↔ p.classifying = some i) := by
  simp [agrees_iff, Slot.isWaiting]

/-- Its Forward Queue alone holds a QUEUED slot. -/
theorem Pool.agrees_queued {r : UpRecord} {k : QueueId} {up : UpContents} : p.Agrees i (.queued r k up) ↔
    i ∉ p.fifo ∧ (∀ q, i ∈ p.queues q ↔ k = q) ∧ p.receiver ≠ some i ∧ p.sender ≠ some i
      ∧ p.classifying ≠ some i := by
  simp [agrees_iff, Slot.isWaiting]

/-- The uplink transmitter alone holds a SENDING slot. -/
theorem Pool.agrees_sending {r : UpRecord} {k : QueueId} {up : UpContents} : p.Agrees i (.sending r k up) ↔
    i ∉ p.fifo ∧ (∀ q, i ∉ p.queues q) ∧ p.receiver ≠ some i ∧ p.sender = some i ∧ p.classifying ≠ some i := by
  simp [agrees_iff, Slot.isWaiting]

/-- A slot that the lists and blocks hold as before agrees as before. -/
theorem Pool.Agrees.of_held (h : p.Agrees j x) (hfifo : j ∈ p'.fifo ↔ j ∈ p.fifo := by exact Iff.rfl)
    (hqueues : ∀ q, j ∈ p'.queues q ↔ j ∈ p.queues q := by exact fun _ => Iff.rfl)
    (hreceiver : p'.receiver = some j ↔ p.receiver = some j := by exact Iff.rfl)
    (hsender : p'.sender = some j ↔ p.sender = some j := by exact Iff.rfl)
    (hclassifying : p'.classifying = some j ↔ p.classifying = some j := by exact Iff.rfl) : p'.Agrees j x :=
  ⟨hfifo.trans h.waiting, fun q => (hqueues q).trans (h.queued q), h.receiving.trans hreceiver.symm,
    h.sending.trans hsender.symm, h.classifying.trans hclassifying.symm⟩

/-- A restart empties the lists and the Classifier, and leaves the slots that the receiver and the transmitter hold (R30). -/
theorem Pool.Agrees.restart (h : p.Agrees i x) :
    Pool.Agrees { p with
      slots := fun j => (p.slots j).restart, fifo := [], queues := fun _ => [], classifying := none } i x.restart := by
  have hblocks := And.intro h.receiving h.sending
  rw [Pool.agrees_iff]
  cases x <;> simpa [Slot.restart, Slot.isWaiting] using hblocks

/-- A slot rewritten keeps the agreement, when the lists and blocks hold it as its new contents ask and hold the other slots
as before. -/
theorem Pool.Sound.rewrite (h : p.Sound)
    (hslots : p'.slots = Function.update p.slots i x) (hfifo : p'.fifo.Nodup) (hqueues : ∀ q, (p'.queues q).Nodup)
    (hhead : ∀ j, p'.classifying = some j → p'.fifo.head? = some j) (hself : p'.Agrees i x)
    (hothers : ∀ j, j ≠ i → p.Agrees j (p.slots j) → p'.Agrees j (p.slots j)) : p'.Sound := by
  refine ⟨hfifo, hqueues, hhead, fun j => ?_⟩
  rw [hslots]
  by_cases hj : j = i
  · subst hj
    rwa [Function.update_self]
  · rw [Function.update_of_ne hj]
    exact hothers j hj (h.agrees j)

/-- A block that holds slot `i` before and nothing after, or the other way round, never holds another slot. -/
theorem holds_none_iff (hj : j ≠ i) : (none : Option SlotId) = some j ↔ some i = some j := by
  simp [hj.symm]

theorem Pool.Move.sound {c : Instr} (hm : p.Move c p') (h : p.Sound) : p'.Sound := by
  obtain ⟨hfifo, hqueues, hhead, hagrees⟩ := id h
  cases hm with
  | stay => exact h
  | claim i r hslot hidle =>
    obtain ⟨hf, hq, hrx, htx, hc⟩ := agrees_free.1 (hslot ▸ hagrees i)
    refine h.rewrite rfl hfifo hqueues hhead (agrees_receiving.2 ⟨hf, hq, rfl, htx, hc⟩) fun j hj hjs => ?_
    exact hjs.of_held (hreceiver := by rw [hidle]; exact (holds_none_iff hj).symm)
  | store i r r' hslot =>
    have hi := agrees_receiving.1 (hslot ▸ hagrees i)
    exact h.rewrite rfl hfifo hqueues hhead (agrees_receiving.2 hi) fun j hj hjs => hjs.of_held
  | release i r hslot =>
    obtain ⟨hf, hq, hrx, htx, hc⟩ := agrees_receiving.1 (hslot ▸ hagrees i)
    refine h.rewrite rfl hfifo hqueues hhead (agrees_free.2 ⟨hf, hq, nofun, htx, hc⟩) fun j hj hjs => ?_
    exact hjs.of_held (hreceiver := by rw [hrx]; exact holds_none_iff hj)
  | enter i r u hslot =>
    obtain ⟨hf, hq, hrx, htx, hc⟩ := agrees_receiving.1 (hslot ▸ hagrees i)
    refine h.rewrite rfl (by simpa using List.Nodup.concat hf hfifo) hqueues (fun j hj => ?_)
      (agrees_waiting.2 ⟨by simp, hq, nofun, htx, by simpa using hc⟩) fun j hj hjs => ?_
    · rw [List.head?_append, hhead j hj]
      rfl
    · exact hjs.of_held (hfifo := by simp [hj]) (hreceiver := by rw [hrx]; exact holds_none_iff hj)
  | take i r v hslot hfirst hidle =>
    obtain ⟨hf, hq, hrx, htx, hc⟩ := agrees_waiting.1 (hslot ▸ hagrees i)
    refine h.rewrite rfl hfifo hqueues (fun j hj => hj ▸ hfirst)
      (agrees_waiting.2 ⟨hf, hq, hrx, htx, by simp⟩) fun j hj hjs => ?_
    exact hjs.of_held (hclassifying := by rw [hidle]; exact (holds_none_iff hj).symm)
  | drop i r hslot =>
    obtain ⟨hf, hq, hrx, htx, hc⟩ := agrees_waiting.1 (hslot ▸ hagrees i)
    refine h.rewrite rfl (hfifo.erase i) hqueues nofun
      (agrees_free.2 ⟨hfifo.not_mem_erase, hq, hrx, htx, nofun⟩) fun j hj hjs => ?_
    exact hjs.of_held (hfifo := List.mem_erase_of_ne hj)
      (hclassifying := by rw [hc.1 rfl]; exact holds_none_iff hj)
  | enqueue i r q up hslot =>
    obtain ⟨hf, hq, hrx, htx, hc⟩ := agrees_waiting.1 (hslot ▸ hagrees i)
    refine h.rewrite rfl (hfifo.erase i) (fun k => ?_) nofun
      (agrees_queued.2 ⟨hfifo.not_mem_erase, fun k => ?_, hrx, htx, nofun⟩) fun j hj hjs => ?_
    · by_cases hk : k = q
      · subst hk
        simpa using List.Nodup.concat (hq k) (hqueues k)
      · simpa [hk] using hqueues k
    · by_cases hk : k = q
      · simp [hk]
      · exact iff_of_false (by simpa [hk] using hq k) (Ne.symm hk)
    · refine hjs.of_held (hfifo := List.mem_erase_of_ne hj) (fun k => ?_)
        (hclassifying := by rw [hc.1 rfl]; exact holds_none_iff hj)
      by_cases hk : k = q
      · simp [hk, hj]
      · simp [hk]
  | grant i rest r q up hslot hfirst hidle =>
    obtain ⟨hf, hq, hrx, htx, hc⟩ := agrees_queued.1 (hslot ▸ hagrees i)
    have hnodup : i ∉ rest ∧ rest.Nodup := List.nodup_cons.1 (hfirst ▸ hqueues q)
    refine h.rewrite rfl hfifo (fun k => ?_) hhead
      (agrees_sending.2 ⟨hf, fun k => ?_, hrx, rfl, hc⟩) fun j hj hjs => ?_
    · by_cases hk : k = q
      · simpa [hk] using hnodup.2
      · simpa [hk] using hqueues k
    · by_cases hk : k = q
      · simpa [hk] using hnodup.1
      · simpa [hk, eq_comm] using mt (hq k).1 (Ne.symm hk)
    · refine hjs.of_held (hqueues := fun k => ?_) (hsender := by rw [hidle]; exact (holds_none_iff hj).symm)
      by_cases hk : k = q
      · simp [hk, hfirst, hj]
      · simp [hk]
  | finish i r q up hslot =>
    obtain ⟨hf, hq, hrx, htx, hc⟩ := agrees_sending.1 (hslot ▸ hagrees i)
    refine h.rewrite rfl hfifo hqueues hhead (agrees_free.2 ⟨hf, hq, hrx, nofun, hc⟩) fun j hj hjs => ?_
    exact hjs.of_held (hsender := by rw [htx]; exact holds_none_iff hj)
  | restart =>
    refine ⟨List.nodup_nil, fun _ => List.nodup_nil, nofun, fun i => ?_⟩
    exact (hagrees i).restart
  | reset => exact .empty

end

end Sys2Proof.Machine
end

section
/-! The pool after each command (R19 to R30): every event makes at most one of the moves, so that the agreement is kept and a
QUEUED record is only ever granted or freed by a restart. -/

-- One proof after another: side by side, each waiting thread takes a stack of its own.
set_option Elab.async false

namespace Sys2Proof.Machine

/-! ## The pool of an updated state -/

/-- The items that the pool reads. -/
def Pool.items : List Item := [.slots, .classifyFifo, .queues, .fieldRx, .uplinkTx, .classifier]

theorem State.pool_eq_of_same {s t : State} (h : ∀ x ∈ Pool.items, x.Same s t) : t.pool = s.pool := by
  have hslots : t.slots = s.slots := h .slots (by decide)
  have hfifo : t.classifyFifo = s.classifyFifo := h .classifyFifo (by decide)
  have hqueues : t.queues = s.queues := h .queues (by decide)
  have hrx : t.fieldRx = s.fieldRx := h .fieldRx (by decide)
  have htx : t.uplinkTx = s.uplinkTx := h .uplinkTx (by decide)
  have hclassifier : t.classifier = s.classifier := h .classifier (by decide)
  have hslot : t.slot = s.slot := funext fun i => congrArg (·[i]) hslots
  simp only [State.pool, hslot, hfifo, hqueues, hrx, htx, hclassifier]

theorem State.slot_eq_update {s t : State} {i : SlotId} {x : Slot} (h : t.slots = s.slots.set i x) :
    t.slot = Function.update s.slot i x := by
  funext j
  rw [State.slot_eq, h, Vector_getElem_set_fin, Function.update_apply, State.slot_eq]

/-- The slots of the Forward Queues after one queue is written. -/
theorem queues_set_slots (queues : Vector ForwardQueue Config.queues) (q : QueueId) (x : ForwardQueue) :
    (fun k : QueueId => (queues.set q x)[k].slots) = Function.update (fun k : QueueId => queues[k].slots) q x.slots := by
  funext k
  rw [Vector_getElem_set_fin, Function.update_apply]
  split <;> rfl

/-- The move of a state that writes one slot. -/
theorem Pool.Move.of_slot {s t : State} {c : Instr} {i : SlotId} {x : Slot}
    (h : s.pool.Move c { t.pool with slots := Function.update s.slot i x }) (ht : t.slots = s.slots.set i x) :
    s.pool.Move c t.pool := by
  rw [← State.slot_eq_update ht] at h
  exact h

/-- The move of a state that writes one slot and one Forward Queue. -/
theorem Pool.Move.of_slot_queue {s t : State} {c : Instr} {i : SlotId} {x : Slot} {q : QueueId} {y : ForwardQueue}
    (h : s.pool.Move c
      { t.pool with slots := Function.update s.slot i x, queues := Function.update s.pool.queues q y.slots })
    (ht : t.slots = s.slots.set i x) (hq : t.queues = s.queues.set q y) : s.pool.Move c t.pool := by
  refine .of_slot ?_ ht
  have hqueues : t.pool.queues = Function.update s.pool.queues q y.slots := by
    rw [State.pool, hq]
    exact queues_set_slots s.queues q y
  rw [← hqueues] at h
  exact h

/-- A transmitter without a slot before and after moves nothing. -/
theorem Pool.Move.of_no_sender {s t : State} {c : Instr} (hs : s.uplinkTx.slot = none)
    (ht : t.pool = { s.pool with sender := none }) : s.pool.Move c t.pool := by
  have hsame : t.pool = s.pool := by
    rw [ht, ← hs]
    rfl
  rw [hsame]
  exact .stay

section

variable (s : State)

@[simp] theorem State.pool_fifo : s.pool.fifo = s.classifyFifo := rfl

@[simp] theorem State.pool_setSlot (i : SlotId) (x : Slot) :
    (s.setSlot i x).pool = { s.pool with slots := Function.update s.slot i x } := by
  rw [State.pool, State.slot_eq_update (s.setSlot_slots i x)]
  rfl

@[simp] theorem State.pool_setFieldPhase (p : FieldPhase) :
    (s.setFieldPhase p).pool = { s.pool with receiver := p.reception.join } := rfl

@[simp] theorem State.pool_setContext (ch : Channel) (c : Context) : (s.setContext ch c).pool = s.pool := rfl

@[simp] theorem State.pool_raise (n : Notice) : (s.raise n).pool = s.pool := rfl

@[simp] theorem State.pool_raiseAll (ns : List Notice) : (s.raiseAll ns).pool = s.pool := by
  rw [State.raiseAll_eq]
  rfl

@[simp] theorem State.pool_swapAtCompletion (w : SwapState) (marker : Bool) (ch : Channel) :
    (s.swapAtCompletion w marker ch).pool = s.pool := by
  unfold State.swapAtCompletion
  split
  · rfl
  · rfl
  · split <;> rfl

end

/-! ## The field receiver's slot (R8, R9, R21, R23) -/

section

variable {s : State} {slot : Option SlotId} (c : Instr)

/-- The slot of the field receiver is RECEIVING. -/
theorem PoolSound.receivingSlot (hi : PoolSound s) {i : SlotId} (hp : s.fieldRx.phase.reception = some (some i)) :
    ∃ r, s.slot i = .receiving r :=
  (hi.receiving i).2 hp

/-- A receiver that skips a record holds no slot, as in HUNT. -/
theorem State.pool_setFieldPhase_skipping (hp : s.fieldRx.phase.reception.join = none) {p : FieldPhase}
    (hnext : p.reception.join = none) : (s.setFieldPhase p).pool = s.pool := by
  rw [State.pool_setFieldPhase, hnext, ← hp]
  rfl

theorem startFieldRecord_move (hp : s.fieldRx.phase = .hunt) : s.pool.Move c (startFieldRecord s).pool := by
  have hidle : s.fieldRx.phase.reception.join = none := by rw [hp]; rfl
  cases hf : lowestFree s.slots with
  | some i =>
    rw [startFieldRecord_claims hf, State.pool_setFieldPhase, State.pool_setSlot]
    exact .claim i _ (lowestFree_free hf) hidle
  | none =>
    rw [startFieldRecord_refused hf, State.pool_raise]
    exact (State.pool_setFieldPhase_skipping hidle (p := .header none 0) rfl).symm ▸ .stay

theorem storeFieldByte_move (hi : PoolSound s) (hp : s.fieldRx.phase.reception = some slot)
    (write : PartialRecord → PartialRecord) {p : FieldPhase} (hnext : p.reception = some slot) :
    s.pool.Move c ((storeFieldByte slot write s).setFieldPhase p).pool := by
  cases slot with
  | none =>
    rw [storeFieldByte, State.pool_setFieldPhase_skipping (by rw [hp]; rfl) (by rw [hnext]; rfl)]
    exact .stay
  | some i =>
    obtain ⟨r, hr⟩ := hi.receivingSlot hp
    simp only [storeFieldByte, hr, State.pool_setFieldPhase, State.pool_setSlot, hnext, ← hp]
    exact .store i r (write r) hr

/-- A slot released as the receiver returns to HUNT, whatever is counted besides. -/
theorem releaseFieldSlot_move (hi : PoolSound s) (hp : s.fieldRx.phase.reception = some slot) :
    s.pool.Move c ((releaseFieldSlot slot s).setFieldPhase .hunt).pool := by
  cases slot with
  | none =>
    rw [releaseFieldSlot, State.pool_setFieldPhase_skipping (by rw [hp]; rfl) rfl]
    exact .stay
  | some i =>
    obtain ⟨r, hr⟩ := hi.receivingSlot hp
    rw [releaseFieldSlot, State.pool_setFieldPhase, State.pool_setSlot]
    exact .release i r hr

theorem completeFieldRecord_move (hi : PoolSound s) (hp : s.fieldRx.phase.reception = some slot) (hb lb : Byte) :
    s.pool.Move c ((completeFieldRecord slot hb lb s).setFieldPhase .hunt).pool := by
  have hrelease := releaseFieldSlot_move c hi hp
  cases slot with
  | none => exact hrelease
  | some i =>
    obtain ⟨r, hr⟩ := hi.receivingSlot hp
    simp only [completeFieldRecord, hr, judgeFieldRecord]
    split
    · split
      · next ch _ =>
        exact .of_slot (.enter i r _ hr) rfl
      · exact hrelease
    · exact hrelease

theorem fieldReceive_move (hi : PoolSound s) (m : LineMonitor) (last : Option Byte) (x : Byte) :
    s.pool.Move c (fieldReceive m last x s).pool := by
  cases hp : s.fieldRx.phase with
  | hunt =>
    rw [fieldReceive_hunt hp]
    split
    · exact startFieldRecord_move c hp
    · exact .stay
  | header slot got =>
    have hrec : s.fieldRx.phase.reception = some slot := by rw [hp]; rfl
    simp only [fieldReceive, hp]
    split
    · exact storeFieldByte_move c hi hrec _ rfl
    · unfold fieldLength
      split
      · exact releaseFieldSlot_move c hi hrec
      · exact storeFieldByte_move c hi hrec _ (by split <;> rfl)
  | body slot left =>
    rw [fieldReceive_body hp]
    exact storeFieldByte_move c hi (by rw [hp]; rfl) _ (by split <;> rfl)
  | check slot first =>
    have hrec : s.fieldRx.phase.reception = some slot := by rw [hp]; rfl
    cases first with
    | none =>
      have hsame : (s.setFieldPhase (.check slot (some x))).pool = s.pool := by
        rw [State.pool_setFieldPhase, State.pool, hrec]
        rfl
      rw [fieldReceive_firstCheck hp, hsame]
      exact .stay
    | some first =>
      rw [fieldReceive_lastCheck hp]
      exact completeFieldRecord_move c hi hrec first x

/-- The agreement reads the pool alone. -/
theorem PoolSound.of_pool_eq {t : State} (hi : PoolSound s) (h : t.pool = s.pool) : PoolSound t := by
  rw [poolSound_iff, h]
  exact (poolSound_iff s).1 hi

theorem fieldByte_move (hi : PoolSound s) (x : Byte) : s.pool.Move c (fieldByte x s).pool := by
  rw [fieldByte, State.pool_raiseAll]
  exact fieldReceive_move (s := { s with
    fieldMonitor := s.fieldMonitor.receive x, fieldRx := { s.fieldRx with last := some x } }) c
    (hi.of_pool_eq rfl) s.fieldMonitor s.fieldRx.last x

/-- A field line lost releases the slot of the record in hand (R5). -/
theorem loseField_move (hi : PoolSound s) : s.pool.Move c (loseLine .field s).pool := by
  unfold loseLine
  dsimp only
  split
  · rw [State.pool_raise]
    unfold abortField
    split
    · exact .stay
    · next slot hp =>
      exact releaseFieldSlot_move (s := { s with fieldMonitor := .down 0 }) c (hi.of_pool_eq rfl) hp
  · exact .stay

/-! ## The Classifier's slot (R24, R25) -/

theorem takeForClassification_move : s.pool.Move c (takeForClassification s).pool := by
  unfold takeForClassification
  split
  · next i rest hclassifier hfifo =>
    split
    · next r v hslot =>
      exact .of_slot (.take i r v hslot (by rw [State.pool_fifo, hfifo]; rfl)
        (by rw [State.pool, hclassifier]; rfl)) rfl
    · exact .stay
  · exact .stay

/-- The Classifier's slot is WAITING with In Classification YES. -/
theorem PoolSound.classifiedSlot (hi : PoolSound s) {i : SlotId} {bank : BankId} {g : Byte}
    (hc : s.classifier = .busy i bank g) : ∃ r, s.slot i = .waiting r true :=
  (hi.in_classification i).2 ⟨bank, g, hc⟩

theorem dispose_move {i : SlotId} {r : UpRecord} (hslot : s.slot i = .waiting r true) (d : Disposal) :
    s.pool.Move c (({ s with classifier := .idle } : State).dispose i r d).pool := by
  cases d with
  | drop => exact .of_slot (.drop i r hslot) rfl
  | mapDrop => exact .of_slot (.drop i r hslot) rfl
  | offer q up =>
    simp only [State.dispose]
    split
    · exact .of_slot_queue (.enqueue i r q up hslot) rfl rfl
    · exact .of_slot (.drop i r hslot) rfl

theorem completeClassification_move (hi : PoolSound s) : s.pool.Move c (completeClassification s).pool := by
  unfold completeClassification
  split
  · exact .stay
  · next i bank g hc =>
    obtain ⟨r, hr⟩ := hi.classifiedSlot hc
    rw [hr]
    simp only [completeRecord, State.pool_swapAtCompletion, State.pool_raiseAll, State.pool_setContext]
    exact dispose_move c hr _

/-! ## The uplink transmitter's slot (R26, R27) -/

/-- A slot in a Forward Queue is QUEUED for that queue. -/
theorem PoolSound.queuedSlot (hi : PoolSound s) {i : SlotId} {q : QueueId} {rest : List SlotId}
    (hq : s.queues[q].slots = i :: rest) : ∃ r up, s.slot i = .queued r q up :=
  (hi.queue_queued q i).1 (hq ▸ List.mem_cons_self)

theorem grantSlot_move (hi : PoolSound s) (htx : s.uplinkTx = .idle) (q : QueueId) :
    s.pool.Move .uplinkGrant (grantSlot q s).pool := by
  unfold grantSlot
  split
  · exact .stay
  · next i rest hq =>
    obtain ⟨r, up, hr⟩ := hi.queuedSlot hq
    rw [hr]
    exact .of_slot_queue (.grant i rest r q up hr hq (by rw [State.pool, htx]; rfl)) rfl rfl

theorem grant_move (hi : PoolSound s) : s.pool.Move .uplinkGrant (grant s).pool := by
  unfold grant
  split
  · next h =>
    have hnone : s.uplinkTx.slot = none := by rw [h.1]; rfl
    unfold grantBest
    split
    · exact .of_no_sender hnone rfl
    · split
      · exact .of_no_sender hnone rfl
      · split
        · exact grantSlot_move hi h.1 _
        · exact .stay
  · exact .stay

/-- The slot that the uplink transmitter sends is SENDING. -/
theorem PoolSound.sendingSlot (hi : PoolSound s) {i : SlotId} {bytes : List Byte} {n : Nat}
    (htx : s.uplinkTx = .sending (.slot i) bytes n) : ∃ r q up, s.slot i = .sending r q up :=
  (hi.sending i).2 ⟨bytes, n, htx⟩

theorem finishUplink_move (hi : PoolSound s) : s.pool.Move c (finishUplink s).pool := by
  cases htx : s.uplinkTx with
  | idle =>
    rw [finishUplink, htx]
    exact .stay
  | sending g bytes n =>
    cases g with
    | slot i =>
      obtain ⟨r, q, up, hr⟩ := hi.sendingSlot htx
      rw [finishUplink_slot htx hr]
      exact .of_slot (.finish i r q up hr) rfl
    | response =>
      rw [finishUplink, htx]
      exact .of_no_sender (by rw [htx]; rfl) rfl
    | notice =>
      rw [finishUplink, htx]
      exact .of_no_sender (by rw [htx]; rfl) rfl

end

/-! ## The engine's commands (R30, R103) -/

/-- SET QUEUE LIMITS leaves the entries of the queues (R103). -/
theorem answerQueueLimits_pool (s : State) (r : Request) : (answerQueueLimits r s).pool = s.pool := by
  unfold answerQueueLimits
  rcases answerChecked_cases (validQueueLimits r.params) r s _ with ⟨e, -, h⟩ | ⟨limits, -, h⟩ <;> rw [h]
  · rfl
  · have hqueues : (fun q : QueueId => (setLimits s.queues limits)[q].slots) = fun q : QueueId => s.queues[q].slots := by
      simp [setLimits]
    exact congrArg (fun queues => { s.pool with queues := queues }) hqueues

/-- A restart frees the WAITING and QUEUED slots (R30). -/
theorem restartOwners_slot (s : State) (i : SlotId) : (restartOwners s).slot i = (s.slot i).restart := by
  simp [State.slot, restartOwners]

theorem restartOwners_pool (s : State) :
    (restartOwners s).pool =
      { s.pool with slots := fun i => (s.slot i).restart, fifo := [], queues := fun _ => [], classifying := none } := by
  have hslots : (restartOwners s).slot = fun i => (s.slot i).restart := funext (restartOwners_slot s)
  have hqueues : (fun q : QueueId => (restartOwners s).queues[q].slots) = fun _ => [] := by
    simp [restartOwners]
  rw [State.pool, hslots, hqueues]
  rfl

theorem answerRestart_move (s : State) (r : Request) : s.pool.Move .restartTraffic (answerRestart r s).pool := by
  unfold answerRestart
  rcases answerChecked_cases (validEmpty r.params) r s _ with ⟨e, -, h⟩ | ⟨a, -, h⟩ <;> rw [h]
  · exact .stay
  · exact (restartOwners_pool s).symm ▸ .restart

/-! ## Every command -/

/-- From a state whose pool agrees, every event makes at most one move of the pool. -/
theorem exec_poolMove {c : Instr} {s t : State} (hi : PoolSound s) (h : exec c s = .next t) : s.pool.Move c t.pool := by
  have hlive {next : State} (hl : live s next = .next t) (hnext : s.pool.Move c next.pool) : s.pool.Move c t.pool :=
    of_live (P := fun u => s.pool.Move c u.pool) hl .stay hnext
  by_cases hw : ∃ x ∈ Pool.items, x ∈ writtenBy c
  · cases c
    case powerOnReset =>
      cases h
      exact State.reset_pool ▸ .reset
    case byteReceived link x =>
      cases link with
      | field => exact hlive h (fieldByte_move _ hi x)
      | uplink => simp [Pool.items, writtenBy] at hw
    case lineDown link =>
      cases link with
      | field => exact hlive h (loseField_move _ hi)
      | uplink => simp [Pool.items, writtenBy] at hw
    case classifyTake => exact hlive h (takeForClassification_move _)
    case classifyComplete => exact hlive h (completeClassification_move _ hi)
    case uplinkGrant => exact hlive h (grant_move hi)
    case uplinkTransmitComplete => exact hlive h (finishUplink_move _ hi)
    case setQueueLimits =>
      refine of_row (P := fun u => s.pool.Move _ u.pool) rfl h .stay fun r rest _ _ _ => ?_
      rw [answerQueueLimits_pool]
      exact .stay
    case restartTraffic =>
      exact of_row (P := fun u => s.pool.Move _ u.pool) rfl h .stay fun r rest _ _ _ =>
        answerRestart_move { s with requestFifo := rest } r
    all_goals simp [Pool.items, writtenBy, Item.ofAnswer] at hw
  · rw [State.pool_eq_of_same fun x hx => exec_same h fun hc => hw ⟨x, hx, hc⟩]
    exact .stay

/-- A microsecond of a transmission moves no slot. -/
theorem microsecond_pool (s : State) : (microsecond s).pool = s.pool := by
  have htx : s.uplinkTx.elapse.slot = s.uplinkTx.slot := by
    rcases s.uplinkTx with _ | ⟨_ | _ | _, bytes, n⟩ <;> rfl
  exact congrArg (fun sender => { s.pool with sender := sender }) htx

/-- Settles O53: every event makes at most one move of the pool, and each move keeps the agreement. -/
theorem poolAgreementIsKept : Obligations.PoolAgreementIsKept := by
  refine .of_exec (fun s l hi => hi.of_pool_eq rfl) (fun s hi => hi.of_pool_eq (microsecond_pool s))
    fun c s t hi h => ?_
  exact (poolSound_iff t).2 ((exec_poolMove hi h).sound ((poolSound_iff s).1 hi))

/-- A QUEUED slot stands in every move but its own grant, a restart and a reset (R26, R30). -/
theorem Pool.Move.queued {p p' : Pool} {c : Instr} (hm : p.Move c p') {i : SlotId} {r : UpRecord} {q : QueueId}
    {up : UpContents} (hslot : p.slots i = .queued r q up) :
    p'.slots i = .queued r q up ∨ (p'.slots i = .sending r q up ∧ c = .uplinkGrant)
      ∨ (p'.slots i = .free ∧ (c = .restartTraffic ∨ c = .powerOnReset)) := by
  have hother {j : SlotId} {x y : Slot} (hj : p.slots j = y) (hy : y ≠ .queued r q up) :
      Function.update p.slots j x i = .queued r q up := by
    have hne : i ≠ j := by
      rintro rfl
      exact hy (hj.symm.trans hslot)
    rw [Function.update_of_ne hne, hslot]
  cases hm with
  | stay => exact .inl hslot
  | claim _ _ hj => exact .inl (hother hj nofun)
  | store _ _ _ hj => exact .inl (hother hj nofun)
  | release _ _ hj => exact .inl (hother hj nofun)
  | enter _ _ _ hj => exact .inl (hother hj nofun)
  | take _ _ _ hj => exact .inl (hother hj nofun)
  | drop _ _ hj => exact .inl (hother hj nofun)
  | enqueue _ _ _ _ hj => exact .inl (hother hj nofun)
  | finish _ _ _ _ hj => exact .inl (hother hj nofun)
  | grant j rest r' q' up' hj =>
    by_cases hij : i = j
    · subst hij
      cases hslot.symm.trans hj
      exact .inr (.inl ⟨Function.update_self .., rfl⟩)
    · exact .inl ((Function.update_of_ne hij ..).trans hslot)
  | restart => exact .inr (.inr ⟨congrArg Slot.restart hslot, .inl rfl⟩)
  | reset => exact .inr (.inr ⟨rfl, .inr rfl⟩)

/-- Settles O60: the moves of the pool, for a QUEUED slot. -/
theorem queuedRecordsKeepTheirContents : Obligations.QueuedRecordsKeepTheirContents :=
  fun _ _ _ _ _ _ _ hi hslot h => (exec_poolMove hi h).queued hslot

end Sys2Proof.Machine
end

section
/-! The grants of the Uplink Scheduler and the bytes they send (R26, R140, R144, 11.1). -/

-- One proof after another: side by side, each waiting thread takes a stack of its own.
set_option Elab.async false

namespace Sys2Proof.Machine

/-! ## The grant order (R140) -/

/-- The lowest-numbered Forward Queue that holds a slot. -/
theorem lowestWaitingQueue_eq_some {queues : Vector ForwardQueue Config.queues} {q : QueueId} (h : queues[q].slots ≠ [])
    (hlow : ∀ k : QueueId, k < q → queues[k].slots = []) : lowestWaitingQueue queues = some q := by
  unfold lowestWaitingQueue
  rw [List.find?_eq_some_iff_getElem]
  refine ⟨by simpa using h, q.val, by simp, by simp, fun k hk => ?_⟩
  simpa using hlow ⟨k, by omega⟩ hk

/-- No queue is granted when none holds a slot. -/
theorem lowestWaitingQueue_eq_none {queues : Vector ForwardQueue Config.queues}
    (h : ∀ q : QueueId, queues[q].slots = []) : lowestWaitingQueue queues = none := by
  unfold lowestWaitingQueue
  rw [List.find?_eq_none]
  intro q _
  simpa using h q

section

variable {s : State}

/-- The Scheduler grants the idle transmitter on an UP line. -/
theorem grant_idle {n : Nat} (htx : s.uplinkTx = .idle) (hm : s.uplinkMonitor = .up n) : grant s = grantBest s :=
  if_pos ⟨htx, by rw [hm]; rfl⟩

/-- A DOWN line or a busy transmitter is granted nothing. -/
theorem grant_waits (h : (∃ n, s.uplinkMonitor = .down n) ∨ s.uplinkTx ≠ .idle) : grant s = s := by
  refine if_neg fun ⟨htx, hup⟩ => ?_
  rcases h with ⟨n, hm⟩ | h
  · rw [hm] at hup
    cases hup
  · exact h htx

theorem grantBest_response {p : Response} {rest : List Response} (hr : s.responses = p :: rest) :
    grantBest s = { s with responses := rest, uplinkTx := .sending .response (frameRecord p.bytes) 0 } := by
  simp only [grantBest, hr]

theorem grantBest_notice {p : Notice} {rest : List Notice} (hr : s.responses = []) (hn : s.notices = p :: rest) :
    grantBest s = { s with
      notices := rest
      noticeNumber := s.noticeNumber + 1#16
      uplinkTx := .sending .notice (frameRecord (p.bytes s.noticeNumber)) 0 } := by
  simp only [grantBest, hr, hn]

theorem grantBest_queue (hr : s.responses = []) (hn : s.notices = []) :
    grantBest s = (lowestWaitingQueue s.queues).elim s fun q => grantSlot q s := by
  simp only [grantBest, hr, hn]
  cases lowestWaitingQueue s.queues <;> rfl

theorem grantSlot_queued {q k : QueueId} {i : SlotId} {rest : List SlotId} {r : UpRecord} {up : UpContents}
    (hq : s.queues[q].slots = i :: rest) (hslot : s.slot i = .queued r k up) :
    grantSlot q s = { s with
      queues := s.queues.set q ⟨rest, s.queues[q].limit⟩
      slots := s.slots.set i (.sending r k up)
      uplinkTx := .sending (.slot i) (frameRecord (dataUpBytes r up)) 0 } := by
  simp only [grantSlot, hq, hslot]

end

/-! ## The codes of 11.2 -/

theorem Status.code_eq (st : Status) : st.code = statusByte st := by
  cases st <;> rfl

theorem NoticeKind.code_eq (k : NoticeKind) : k.code = kindByte k := by
  cases k <;> rfl

theorem RuleRef.code_eq (ref : RuleRef) : ref.code = refByte ref := by
  cases ref <;> rfl

/-- Settles O16: the best candidate, the states that wait, and the bytes of each record by its layout. -/
theorem grantOrder : Obligations.GrantOrder := by
  intro s h
  have hexec : exec .uplinkGrant s = .next (grant s) := live_of_released _ h
  refine ⟨fun n htx hm => ?_, fun hw => ?_, fun g e => ⟨fun p => ?_, fun number p => ?_, fun r up => ?_⟩⟩
  · rw [hexec, grant_idle htx hm]
    refine ⟨fun p rest hr => ?_, fun p rest hr hn => ?_, fun q i rest r up hr hn hlow hq hslot => ?_,
      fun hr hn hempty => ?_⟩
    · rw [grantBest_response hr]
    · rw [grantBest_notice hr hn]
    · rw [grantBest_queue hr hn, lowestWaitingQueue_eq_some (by rw [hq]; exact List.cons_ne_nil i rest) hlow, Option.elim_some,
        grantSlot_queued hq hslot]
    · rw [grantBest_queue hr hn, lowestWaitingQueue_eq_none hempty, Option.elim_none]
  · rw [hexec, grant_waits hw]
  · rw [← Status.code_eq]
    rfl
  · rw [← NoticeKind.code_eq]
    rfl
  · rw [← RuleRef.code_eq]
    rfl

end Sys2Proof.Machine
end

section
/-! The two events of a classification at the Slot Pool and the counters of the channels (R24, R25, R51, R59). -/

-- One proof after another: side by side, each waiting thread takes a stack of its own.
set_option Elab.async false

namespace Sys2Proof.Machine

/-! ## The take (R24, R59) -/

theorem takeForClassification_head {s : State} {i : SlotId} {rest : List SlotId} {r : UpRecord} {v : Bool}
    (hc : s.classifier = .idle) (hf : s.classifyFifo = i :: rest) (hslot : s.slot i = .waiting r v) :
    takeForClassification s =
      { s with slots := s.slots.set i (.waiting r true), classifier := .busy i s.active s.generation } := by
  simp only [takeForClassification, hc, hf, hslot]

/-- A BUSY Classifier, and an empty Classify FIFO, take nothing. -/
theorem takeForClassification_waits {s : State} (h : s.classifier ≠ .idle ∨ s.classifyFifo = []) :
    takeForClassification s = s := by
  unfold takeForClassification
  split
  · next i rest hc hf =>
    rcases h with h | h
    · exact absurd hc h
    · rw [hf] at h
      cases h
  · rfl

/-- Settles O22: the take of the head, and the states in which there is none. -/
theorem takeRecordsBankAndGeneration : Obligations.TakeRecordsBankAndGeneration := by
  intro s h
  refine ⟨fun i rest r v hc hf hslot => ?_, fun hw => ?_⟩
  · exact (live_of_released _ h).trans (congrArg _ (takeForClassification_head hc hf hslot))
  · exact (live_of_released _ h).trans (congrArg _ (takeForClassification_waits hw))

/-! ## The counters of a channel at a completion (R51) -/

/-- The counters of a channel that a completion counts: CLASSIFIED, FORWARDED and DROPPED. -/
def Context.tally (c : Context) : Word32 × Word32 × Word32 := (c.classified, c.forwarded, c.dropped)

theorem chainStep_tally (b : Bank) (now : Word32) (r : UpRecord) (c : Context) :
    (chainStep b now r c).context.tally = c.tally := by
  rw [chainStep_context]
  rfl

theorem heartbeat_tally (ch : Channel) (st : ChannelState) (c : Context) : (heartbeat ch st c).1.tally = c.tally := by
  rw [heartbeat_context]
  rfl

theorem openHeartbeat_tally (v : Verdict) (ch : Channel) (c : Context) : (openHeartbeat v ch c).1.tally = c.tally := by
  unfold openHeartbeat
  split
  · exact heartbeat_tally ch .opened c
  · rfl

theorem Context.overrideUsed_tally (c : Context) (v : Verdict) : (c.overrideUsed v).tally = c.tally := by
  unfold Context.overrideUsed
  split <;> rfl

theorem Context.verdictState_tally (c : Context) (v : Verdict) : (c.verdictState v).tally = c.tally := by
  unfold Context.verdictState
  split <;> rfl

theorem Context.close_tally (c : Context) : c.close.tally = c.tally := by
  unfold Context.close
  split <;> rfl

theorem Context.chainAction_tally (c : Context) (d : Option ChainDef) : (c.chainAction d).tally = c.tally := by
  cases d with
  | none => rfl
  | some d =>
    unfold Context.chainAction
    dsimp only
    split
    · rfl
    · rfl
    · exact c.close_tally
    · rfl

/-- The outcome of a record counts nothing (R51): the completion does. -/
theorem judge_tally (b : Bank) (g : Byte) (now : Word32) (w : SwapState) (r : UpRecord) (c : Context) :
    (judge b g now w r c).context.tally = c.tally := by
  unfold judge
  split
  · rfl
  · exact heartbeat_tally r.channel .quarantined c
  · calc (judgeOpen b g now w r c).context.tally
        = ((((openHeartbeat (verdictOf b r).1 r.channel (chainStep b now r c).context).1.overrideUsed
            (verdictOf b r).1).verdictState (verdictOf b r).1).chainAction (chainStep b now r c).completed).tally := rfl
      _ = c.tally := by
        rw [Context.chainAction_tally, Context.verdictState_tally, Context.overrideUsed_tally, openHeartbeat_tally,
          chainStep_tally]

/-- A swap counts nothing: it clears the chain runs (R131). -/
theorem State.swapAtCompletion_tally (s : State) (w : SwapState) (marker : Bool) (ch k : Channel) :
    ((s.swapAtCompletion w marker ch).context k).tally = (s.context k).tally := by
  have hswap (trigger : SwapTrigger) : ((s.performSwap trigger).context k).tally = (s.context k).tally := by
    simp [State.context, Context.clearRun, Context.tally]
  unfold State.swapAtCompletion
  split
  · rfl
  · exact hswap _
  · split
    · exact hswap _
    · rfl

/-! ## The record at a completion (R25) -/

/-- The DATA_UP contents of a record carry the Generation Number recorded at its take. -/
theorem judge_generation {b : Bank} {g : Byte} {now : Word32} {w : SwapState} {r : UpRecord} {c : Context} {q : QueueId}
    {up : UpContents} (h : (judge b g now w r c).disposal = .offer q up) : up.generation = g := by
  unfold judge at h
  split at h
  · cases h
  · cases h
    rfl
  · simp only [judgeOpen, applyAction] at h
    split at h
    · cases h
    · cases h
      rfl
    · split at h
      · cases h
      · cases h
        rfl

/-- A disposal places the record at the tail of a queue, or frees its slot and leaves the queues. -/
theorem State.dispose_cases (s : State) (i : SlotId) (r : UpRecord) (d : Disposal) :
    (∃ q up, d = .offer q up ∧ s.places d = true ∧ (s.dispose i r d).slots = s.slots.set i (.queued r q up)
        ∧ (s.dispose i r d).queues = s.queues.set q (s.queues[q].append i))
      ∨ (s.places d = false ∧ (s.dispose i r d).slots = s.slots.set i .free ∧ (s.dispose i r d).queues = s.queues) := by
  cases d with
  | drop => exact .inr ⟨rfl, rfl, rfl⟩
  | mapDrop => exact .inr ⟨rfl, rfl, rfl⟩
  | offer q up =>
    simp only [State.dispose, State.places]
    split
    · next ha => exact .inl ⟨q, up, rfl, ha, rfl, rfl⟩
    · next ha => exact .inr ⟨by simpa using ha, rfl, rfl⟩

/-! ## A completion, by item (R51, R61) -/

/-- The swap at a completion leaves the Slot Pool, its lists and the Classifier. -/
theorem State.swapAtCompletion_frame (s : State) (w : SwapState) (marker : Bool) (ch : Channel) :
    s.swapAtCompletion w marker ch = { s with
      active := (s.swapAtCompletion w marker ch).active
      generation := (s.swapAtCompletion w marker ch).generation
      contexts := (s.swapAtCompletion w marker ch).contexts
      swap := (s.swapAtCompletion w marker ch).swap
      notices := (s.swapAtCompletion w marker ch).notices
      counters := (s.swapAtCompletion w marker ch).counters } := by
  unfold State.swapAtCompletion
  repeat' split
  all_goals rfl

/-- A disposal neither reads nor writes the Classifier. -/
theorem State.dispose_of_idle (s : State) (i : SlotId) (r : UpRecord) (d : Disposal) :
    ({ s with classifier := .idle } : State).dispose i r d = { s.dispose i r d with classifier := .idle } := by
  cases d with
  | drop => rfl
  | mapDrop => rfl
  | offer q up =>
    simp only [State.dispose]
    split <;> rfl

/-- What becomes of the record that a completion classifies. -/
def State.disposalOf (s : State) (bank : BankId) (g : Byte) (r : UpRecord) : Disposal :=
  (judge (s.bank bank) g s.timebase.count s.swap r (s.context r.channel)).disposal

section

variable (s : State) (i : SlotId) (bank : BankId) (g : Byte) (r : UpRecord)

theorem completeRecord_slots : (completeRecord i bank g r s).slots = (s.dispose i r (s.disposalOf bank g r)).slots := by
  rw [completeRecord, State.swapAtCompletion_frame]
  simp [State.dispose_of_idle, State.disposalOf]

/-- A completion moves no slot but the record's. -/
theorem completeRecord_slot_ne {i j : SlotId} (hj : j ≠ i) : (completeRecord i bank g r s).slot j = s.slot j := by
  have hslots := completeRecord_slots s i bank g r
  rcases s.dispose_cases i r (s.disposalOf bank g r) with ⟨q, up, -, -, hds, -⟩ | ⟨-, hds, -⟩ <;>
    rw [State.slot_eq_update (hslots.trans hds), Function.update_of_ne hj]

theorem completeRecord_queues :
    (completeRecord i bank g r s).queues = (s.dispose i r (s.disposalOf bank g r)).queues := by
  rw [completeRecord, State.swapAtCompletion_frame]
  simp [State.dispose_of_idle, State.disposalOf]

theorem completeRecord_classifyFifo : (completeRecord i bank g r s).classifyFifo = s.classifyFifo.erase i := by
  rw [completeRecord, State.swapAtCompletion_frame]
  simp

theorem completeRecord_classifier : (completeRecord i bank g r s).classifier = .idle := by
  rw [completeRecord, State.swapAtCompletion_frame]
  simp

theorem State.context_raiseAll (ns : List Notice) (k : Channel) : (s.raiseAll ns).context k = s.context k := by
  rw [State.raiseAll_eq]
  rfl

/-- A count adds the same to contexts of one tally. -/
theorem Context.counted_tally {c d : Context} (h : c.tally = d.tally) (placed : Bool) :
    (c.counted placed).tally = (d.counted placed).tally := by
  simp only [Context.tally, Prod.mk.injEq] at h
  obtain ⟨hc, hf, hd⟩ := h
  cases placed <;> simp [Context.tally, Context.counted, hc, hf, hd]

/-- The record's channel counts it, and no other channel does (R51). -/
theorem completeRecord_tally (k : Channel) :
    ((completeRecord i bank g r s).context k).tally =
      if k = r.channel then ((s.context k).counted (s.places (s.disposalOf bank g r))).tally
      else (s.context k).tally := by
  rw [completeRecord, State.swapAtCompletion_tally, State.context_raiseAll, State.context_setContext]
  split
  · next hk =>
    subst hk
    exact Context.counted_tally (judge_tally ..) _
  · rw [State.dispose_of_idle]
    simp [State.context]

end

theorem Context.tally_counted (c : Context) (placed : Bool) :
    (c.counted placed).tally =
      (c.classified + 1#32, if placed then c.forwarded + 1#32 else c.forwarded,
        if placed then c.dropped else c.dropped + 1#32) := by
  cases placed <;> rfl

theorem Context.tally_eq_iff (c : Context) (x y z : Word32) :
    c.tally = (x, y, z) ↔ c.classified = x ∧ c.forwarded = y ∧ c.dropped = z := by
  simp [Context.tally]

/-- Settles O29: the record's own channel counts it, by whether a queue takes it. -/
theorem completionCountsExactlyOne : Obligations.CompletionCountsExactlyOne := by
  rintro s i rest bank g r ⟨hheld, hc, hf, hslot⟩
  have htally := completeRecord_tally s i bank g r r.channel
  rw [if_pos rfl, Context.tally_counted, Context.tally_eq_iff] at htally
  obtain ⟨hclassified, hforwarded, hdropped⟩ := htally
  have hfifo := completeRecord_classifyFifo s i bank g r
  rw [hf, List.erase_cons_head] at hfifo
  have hothers (k : Channel) (hk : k ≠ r.channel) :=
    (Context.tally_eq_iff ..).1 ((completeRecord_tally s i bank g r k).trans (if_neg hk))
  refine ⟨_, exec_classifyComplete_busy hheld hc hslot, hclassified, ?_, completeRecord_classifier .., hfifo,
    fun j hj => completeRecord_slot_ne s bank g r hj, hothers⟩
  have hslots := completeRecord_slots s i bank g r
  have hqueues := completeRecord_queues s i bank g r
  rcases s.dispose_cases i r (s.disposalOf bank g r) with ⟨q, up, hd, hp, hds, hdq⟩ | ⟨hp, hds, hdq⟩
  · rw [hp] at hforwarded hdropped
    refine .inl ⟨hforwarded, hdropped, q, up, ?_, judge_generation hd, ?_⟩
    · rw [State.slot_eq_update (hslots.trans hds), Function.update_self]
    · rw [hqueues, hdq, Vector_getElem_set_fin, if_pos rfl]
      rfl
  · rw [hp] at hforwarded hdropped
    refine .inr ⟨hforwarded, hdropped, ?_, fun q => by rw [hqueues, hdq]⟩
    rw [State.slot_eq_update (hslots.trans hds), Function.update_self]

end Sys2Proof.Machine
end

section
/-! The release of RESET, RESTART TRAFFIC, and the invariants at reset (R31, R36, R151, R164). -/

-- One proof after another: side by side, each waiting thread takes a stack of its own.
set_option Elab.async false

namespace Sys2Proof.Machine

/-! ## RESET held and released (R31, R36, R151) -/

theorem LineMonitor.isUp_eq_false {m : LineMonitor} : m.isUp = false ↔ ∃ run, m = .down run := by
  cases m <;> simp [LineMonitor.isUp]

theorem State.alert_iff (s : State) :
    s.alert = true ↔ s.resetHeld = false ∧ (∃ run, s.uplinkMonitor = .down run) ∧ s.notices ≠ [] := by
  rw [← LineMonitor.isUp_eq_false]
  simp [State.alert, and_assoc]

/-- While RESET is held every event but POWER_ON_RESET and RESET_RELEASE changes nothing (R31). -/
theorem exec_held {s : State} {c : Instr} (h : s.resetHeld = true) (hreset : c ≠ .powerOnReset)
    (hrelease : ∀ o, c ≠ .resetRelease o) : exec c s = .next s := by
  cases c
  case powerOnReset => exact absurd rfl hreset
  case resetRelease o => exact absurd rfl (hrelease o)
  all_goals exact live_of_held _ h

/-- Settles O5: the release, the held stop, the strap sampled once, and ALERT in every state. -/
theorem releaseOpensChannelsAndHeldResetStops : Obligations.ReleaseOpensChannelsAndHeldResetStops := by
  refine ⟨fun s startOpen h => ⟨releaseReset startOpen s, congrArg _ (if_pos h), rfl, fun ch => ?_, ?_, ?_⟩,
    fun s c h hreset hrelease => exec_held h hreset hrelease, fun s startOpen h => ?_, State.alert_iff⟩
  · simp [releaseReset, State.context, Context.powerOn, openingState]
  · simp [State.alert, h]
  · simp [State.alert_iff, releaseReset]
  · exact congrArg _ (if_neg (by simp [h]))

/-! ## RESTART TRAFFIC (R30, R38, R164) -/

theorem Slot.restart_freed {x : Slot} (h : (∃ r v, x = .waiting r v) ∨ ∃ r q up, x = .queued r q up) :
    x.restart = .free := by
  rcases h with ⟨r, v, rfl⟩ | ⟨r, q, up, rfl⟩ <;> rfl

theorem Slot.restart_kept {x : Slot} (h : (∃ r, x = .receiving r) ∨ (∃ r q up, x = .sending r q up) ∨ x = .free) :
    x.restart = x := by
  rcases h with ⟨r, rfl⟩ | ⟨r, q, up, rfl⟩ | rfl <;> rfl

/-- A restart keeps the configuration of a context and gives its status fields their restart values (R38). -/
theorem restartOwners_context (s : State) (ch : Channel) :
    (restartOwners s).context ch = (s.context ch).restart := by
  simp [State.context, restartOwners]

/-- Settles O51: the state that the restart leaves, and its slots, queues and contexts one by one. -/
theorem restartTrafficStartsAfresh : Obligations.RestartTrafficStartsAfresh := by
  intro s r rest ⟨⟨h, he, hr, hf⟩, hfresh, hcommand⟩ hparams
  have hrow : s.rowFor r = .restartTraffic := by rw [State.rowFor_fresh hfresh, rowOf, hcommand]; rfl
  have hexec := live_takeAs answerRestart h he hr hf hrow
  have hvalid : validEmpty r.params = .ok () := by rw [hparams]; rfl
  rw [answerRestart, hvalid, answerChecked_ok] at hexec
  refine ⟨_, hexec, ?_, fun i => ?_, fun q => ?_, fun ch => ?_⟩
  · simp [State.answered, Request.reply, State.respond, restartOwners, he, Request.answer, Counters.zero, restartedCommand]
  · have hslot := restartOwners_slot { s with requestFifo := rest } i
    exact ⟨fun hfree => hslot.trans (Slot.restart_freed hfree), fun hkept => hslot.trans (Slot.restart_kept hkept)⟩
  · simp [restartOwners]
  · exact restartOwners_context { s with requestFifo := rest } ch

/-! ## The invariants at reset -/

theorem State.reset_context (ch : Channel) : State.reset.context ch = Context.powerOn .closed := by
  simp [State.context, State.reset]

theorem State.reset_queue (q : QueueId) : State.reset.queues[q] = ⟨[], 48⟩ := by
  simp [State.reset]

theorem Context.powerOn_watchSound : (Context.powerOn .closed).WatchSound := by
  simp [Context.WatchSound, Context.powerOn, watchLimitWf]

theorem Context.powerOn_runSound (b : Bank) : (Context.powerOn .closed).RunSound b := by
  simp [Context.RunSound, Context.powerOn]

/-- Settles O57: the pool is empty, every context and queue has its power-on value, and every list is empty. -/
theorem resetMeetsTheInvariants : Obligations.ResetMeetsTheInvariants := by
  refine ⟨(poolSound_iff _).2 (State.reset_pool ▸ .empty), ⟨trivial, fun ch => ?_⟩, ⟨trivial, fun ch => ?_⟩, fun q => ?_,
    ?_, ?_, ⟨fun _ => rfl, fun _ => rfl⟩, trivial⟩
  · rw [State.reset_context]
    exact Context.powerOn_watchSound
  · rw [State.reset_context]
    exact Context.powerOn_runSound _
  · rw [State.reset_queue]
    decide
  · exact ⟨Nat.zero_le _, Nat.zero_le _, Nat.zero_le _, fun h => absurd rfl h⟩
  · exact ⟨Nat.zero_le _, Nat.zero_le _, fun _ => Nat.zero_le _, Nat.zero_le _⟩

end Sys2Proof.Machine
end

section
/-! What one event makes of a channel's context (R43): the context after a command, from the context before it. -/

-- One proof after another: side by side, each waiting thread takes a stack of its own.
set_option Elab.async false

namespace Sys2Proof.Machine

/-! ## The context after an event -/

/-- What the event of a command makes of the context of channel `k`, from state `s`; the two resets apart. -/
inductive ContextEvent (s : State) (k : Channel) : Instr → Context → Prop
  /-- The event does not touch the context. -/
  | stands (c : Instr) : ContextEvent s k c (s.context k)
  /-- A tick claim is taken (R110). -/
  | tick {c : Instr} (hc : c = .watchTick k ∨ c = .limitExpiry k ∨ c = .silenceExpiry k) :
      ContextEvent s k c (tickClaim k (s.context k)).1
  /-- A window expiry is taken (R88). -/
  | window (tick : Word32) : ContextEvent s k (.windowExpiry k) (expireWindow tick (s.context k))
  /-- A record of the channel is completed and counted, and a swap may follow (R51, R61, R74). -/
  | completed {i : SlotId} {bank : BankId} {g : Byte} {r : UpRecord} (hbusy : s.classifier = .busy i bank g)
      (hk : r.channel = k) (placed : Bool) {y : Context}
      (hy : y = (judge (s.bank bank) g s.timebase.count s.swap r (s.context k)).context.counted placed
        ∨ y = ((judge (s.bank bank) g s.timebase.count s.swap r (s.context k)).context.counted placed).clearRun) :
      ContextEvent s k .classifyComplete y
  /-- A swap clears the run (R131). -/
  | swapped {c : Instr} (hc : c = .classifyComplete ∨ c = .armSwapNext) : ContextEvent s k c (s.context k).clearRun
  /-- A DATA_DOWN of the channel is sent and counted (R13, R51). -/
  | sent (n : Word32) : ContextEvent s k .fieldTransmitStart { s.context k with downSent := n }
  /-- The channel's event of the MODIFY CONTEXT in hand (R49). -/
  | modified {r : Request} {list : List Assignment} {left : List Channel} (he : s.engine = .modifying r list (k :: left)) :
      ContextEvent s k .modifyContextChannel (modifyChannel k list (s.context k)).1
  /-- READ WATCH clears NEW (R119). -/
  | watchRead : ContextEvent s k .readWatch { s.context k with new := false }
  /-- The channel's event of the ACK WATCH in hand (R120). -/
  | acknowledged : ContextEvent s k .ackWatchChannel (s.context k).acknowledge
  /-- The channel's counters are cleared (R163). -/
  | countersCleared : ContextEvent s k .readCountersClear (s.context k).clearCounters
  /-- RESTART TRAFFIC (R38). -/
  | restarted : ContextEvent s k .restartTraffic (s.context k).restart

/-! ## The contexts of an updated state -/

theorem State.context_eq_of_contexts {s t : State} (h : t.contexts = s.contexts) (k : Channel) :
    t.context k = s.context k := by
  rw [State.context, h]
  rfl

@[simp] theorem State.context_respond (s : State) (r : Request) (status : Status) (bytes : List Byte) (k : Channel) :
    (s.respond r status bytes).context k = s.context k := rfl

theorem State.context_performSwap (s : State) (trigger : SwapTrigger) (k : Channel) :
    (s.performSwap trigger).context k = (s.context k).clearRun := by
  simp [State.context]

/-- A write to one channel leaves every other. -/
theorem State.context_setContext_cases (s : State) (ch k : Channel) (c : Context) :
    (s.setContext ch c).context k = s.context k ∨ (k = ch ∧ (s.setContext ch c).context k = c) := by
  rw [State.context_setContext]
  by_cases hk : k = ch
  · exact .inr ⟨hk, if_pos hk⟩
  · exact .inl (if_neg hk)

theorem takeTickClaim_context (ch k : Channel) (s : State) :
    (takeTickClaim ch s).context k = s.context k
      ∨ (k = ch ∧ (takeTickClaim ch s).context k = (tickClaim k (s.context k)).1) := by
  unfold takeTickClaim
  split
  · rw [State.context_raiseAll]
    rcases State.context_setContext_cases { s with watchClaims := s.watchClaims.erase ch } ch k
      (tickClaim ch (s.context ch)).1 with h | ⟨rfl, h⟩
    · exact .inl h
    · exact .inr ⟨rfl, h⟩
  · exact .inl rfl

theorem takeWindowClaim_context (ch k : Channel) (s : State) :
    (takeWindowClaim ch s).context k = s.context k
      ∨ (k = ch ∧ ∃ tick, (takeWindowClaim ch s).context k = expireWindow tick (s.context k)) := by
  unfold takeWindowClaim
  split
  · exact .inl rfl
  · next claim _ =>
    rcases State.context_setContext_cases { s with windowClaims := s.windowClaims.erase claim } ch k
      (expireWindow claim.2 (s.context ch)) with h | ⟨rfl, h⟩
    · exact .inl h
    · exact .inr ⟨rfl, claim.2, h⟩

theorem startFieldSend_context (k : Channel) (s : State) :
    (startFieldSend s).context k = s.context k
      ∨ ∃ n, (startFieldSend s).context k = { s.context k with downSent := n } := by
  unfold startFieldSend
  split
  · next d rest _ _ =>
    split
    · split
      · exact .inl rfl
      · rcases State.context_setContext_cases s d.channel k { s.context d.channel with
            downSent := count (s.context d.channel).downSent } with h | ⟨rfl, h⟩
        · exact .inl h
        · exact .inr ⟨_, h⟩
    · exact .inl rfl
  · exact .inl rfl

/-- A range request answers after its last channel and goes on before it; neither touches a context (R48, R120). -/
theorem State.context_answered_or_busy (s : State) (r : Request) (busy : Engine) (last : Bool) (k : Channel) :
    (if last then s.respond r .ok [] else { s with engine := busy }).context k = s.context k := by
  split <;> rfl

theorem modifyNext_context (k : Channel) (s : State) :
    (modifyNext s).context k = s.context k
      ∨ ∃ r list left, s.engine = .modifying r list (k :: left)
        ∧ (modifyNext s).context k = (modifyChannel k list (s.context k)).1 := by
  unfold modifyNext
  split
  · next r list ch left he =>
    have hwrite := State.context_setContext_cases s ch k (modifyChannel ch list (s.context ch)).1
    rw [← State.context_raiseAll _ (modifyChannel ch list (s.context ch)).2] at hwrite
    dsimp only
    rw [State.context_answered_or_busy]
    rcases hwrite with h | ⟨rfl, h⟩
    · exact .inl h
    · exact .inr ⟨r, list, left, he, h⟩
  · exact .inl rfl

theorem ackNext_context (k : Channel) (s : State) :
    (ackNext s).context k = s.context k ∨ (ackNext s).context k = (s.context k).acknowledge := by
  unfold ackNext
  split
  · next r ch left he =>
    dsimp only
    rw [State.context_answered_or_busy]
    rcases State.context_setContext_cases s ch k (s.context ch).acknowledge with h | ⟨rfl, h⟩
    · exact .inl h
    · exact .inr h
  · exact .inl rfl

theorem answerReadWatch_context (r : Request) (k : Channel) (s : State) :
    (answerReadWatch r s).context k = s.context k
      ∨ (answerReadWatch r s).context k = { s.context k with new := false } := by
  unfold answerReadWatch
  rcases answerChecked_cases (validChannel r.params) r s _ with ⟨e, -, h⟩ | ⟨ch, -, h⟩ <;> rw [h]
  · exact .inl rfl
  · rw [State.context_respond]
    rcases State.context_setContext_cases s ch k { s.context ch with new := false } with h | ⟨rfl, h⟩
    · exact .inl h
    · exact .inr h

/-- READ COUNTERS reads Clear YES as 01h (R162). -/
theorem validReadCounters_clear {ps : List Byte} {scope : Option Channel} (h : validReadCounters ps = .ok (scope, true)) :
    ps[2]? = some 0x01#8 := by
  obtain ⟨hlen, hv⟩ := (checked_ok_iff _ _ _).1 h
  rw [beq_iff_eq] at hlen
  have hflag : parseFlag (ps.getD 2 0#8) = some true := by
    split at hv
    · next clear hf =>
      split at hv
      · cases hv
        exact hf
      · split at hv
        · obtain ⟨ch, -, hp⟩ := Option.map_eq_some_iff.1 hv
          cases hp
          exact hf
        · cases hv
    · cases hv
  have hbyte : ps.getD 2 0#8 = 0x01#8 := by
    unfold parseFlag at hflag
    split at hflag
    · cases hflag
    · split at hflag
      · assumption
      · cases hflag
  rw [List.getElem?_eq_getElem (by omega), ← hbyte, List.getD_eq_getElem?_getD, List.getElem?_eq_getElem (by omega)]
  rfl

/-- READ COUNTERS clears the counters of a channel only with Clear YES (R163). -/
theorem answerReadCounters_context (r : Request) (k : Channel) (s : State) :
    (answerReadCounters r s).context k = s.context k
      ∨ (r.params[2]? = some 0x01#8 ∧ (answerReadCounters r s).context k = (s.context k).clearCounters) := by
  unfold answerReadCounters
  rcases answerChecked_cases (validReadCounters r.params) r s _ with ⟨e, -, h⟩ | ⟨⟨scope, clear⟩, hv, h⟩ <;> rw [h]
  · exact .inl rfl
  · cases scope with
    | none =>
      rw [State.context_respond]
      split <;> exact .inl rfl
    | some ch =>
      rw [State.context_respond]
      split
      · next hclear =>
        rw [show clear = true from hclear] at hv
        rcases State.context_setContext_cases s ch k (s.context ch).clearCounters with h | ⟨rfl, h⟩
        · exact .inl h
        · exact .inr ⟨validReadCounters_clear hv, h⟩
      · exact .inl rfl

theorem answerArmNext_context (r : Request) (k : Channel) (s : State) :
    (answerArmNext r s).context k = s.context k ∨ (answerArmNext r s).context k = (s.context k).clearRun := by
  unfold answerArmNext
  rcases answerChecked_cases (validArmNext r.params) r s _ with ⟨e, -, h⟩ | ⟨_, -, h⟩ <;> rw [h]
  · exact .inl rfl
  · split
    · exact .inl rfl
    · unfold armNext
      split
      · exact .inr (State.context_performSwap _ _ k)
      · exact .inl rfl

theorem answerRestart_context (r : Request) (k : Channel) (s : State) :
    (answerRestart r s).context k = s.context k ∨ (answerRestart r s).context k = (s.context k).restart := by
  unfold answerRestart
  rcases answerChecked_cases (validEmpty r.params) r s _ with ⟨e, -, h⟩ | ⟨_, -, h⟩ <;> rw [h]
  · exact .inl rfl
  · exact .inr (restartOwners_context s k)

theorem State.swapAtCompletion_context (s : State) (w : SwapState) (marker : Bool) (ch k : Channel) :
    (s.swapAtCompletion w marker ch).context k = s.context k
      ∨ (s.swapAtCompletion w marker ch).context k = (s.context k).clearRun := by
  unfold State.swapAtCompletion
  split
  · exact .inl rfl
  · exact .inr (State.context_performSwap ..)
  · split
    · exact .inr (State.context_performSwap ..)
    · exact .inl rfl

/-- The context of a channel after a completion: the record's channel is judged and counted, and a swap may follow. -/
theorem completeRecord_context (i : SlotId) (bank : BankId) (g : Byte) (r : UpRecord) (k : Channel) (s : State) :
    ∃ u : Context, (u = s.context k ∨ (r.channel = k ∧ ∃ placed,
        u = (judge (s.bank bank) g s.timebase.count s.swap r (s.context k)).context.counted placed))
      ∧ ((completeRecord i bank g r s).context k = u ∨ (completeRecord i bank g r s).context k = u.clearRun) := by
  unfold completeRecord
  refine ⟨_, ?_, State.swapAtCompletion_context ..⟩
  rw [State.context_raiseAll]
  rcases State.context_setContext_cases _ r.channel k _ with h | ⟨hk, h⟩ <;> rw [h]
  · exact .inl (State.context_eq_of_contexts (by simp) k)
  · exact .inr ⟨hk.symm, _, by rw [hk]⟩

theorem completeClassification_context (k : Channel) (s : State) :
    ContextEvent s k .classifyComplete ((completeClassification s).context k) := by
  unfold completeClassification
  split
  · exact .stands _
  · next i bank g hbusy =>
    split
    · next r v _ =>
      obtain ⟨u, rfl | ⟨hk, placed, rfl⟩, hy⟩ := completeRecord_context i bank g r k s
      · rcases hy with hy | hy <;> rw [hy]
        · exact .stands _
        · exact .swapped (.inl rfl)
      · exact .completed hbusy hk placed hy
    · exact .stands _

/-! ## Every command -/

/-- A request row changes nothing, or takes the head of the Request FIFO, which is a request of that row (R154). -/
theorem of_row_head {P : State → Prop} {c : Instr} {act : Request → State → State} {s t : State}
    (hc : rowAct c = some act) (h : exec c s = .next t) (hs : P s)
    (hact : ∀ r rest, s.rowFor r = c → P (act r { s with requestFifo := rest })) : P t := by
  rw [exec_eq_takeAs hc] at h
  refine of_live h hs ?_
  rcases s.takeAs_cases c act with e | ⟨r, rest, -, -, -, hrow, e⟩ <;> rw [e]
  · exact hs
  · exact hact r rest hrow

/-- A request of the row READ COUNTERS has a Clear other than YES (log entry 4). -/
theorem State.rowFor_readCounters {s : State} {r : Request} (h : s.rowFor r = .readCounters) :
    r.params[2]? ≠ some 0x01#8 := by
  intro hclear
  unfold State.rowFor at h
  split at h
  · cases h
  · unfold rowOf at h
    split at h
    case h_21 => rw [if_pos hclear] at h; cases h
    case h_17 => split at h <;> cases h
    all_goals cases h

/-- The context of a channel after a command, the two resets apart. -/
theorem exec_contextEvent {c : Instr} {s t : State} (h : exec c s = .next t) (hreset : c ≠ .powerOnReset)
    (hrelease : ∀ startOpen, c ≠ .resetRelease startOpen) (k : Channel) : ContextEvent s k c (t.context k) := by
  by_cases hw : .contexts ∈ writtenBy c
  case neg => exact State.context_eq_of_contexts (exec_same h hw) k ▸ .stands c
  have htick {ch : Channel} (hc : c = .watchTick ch ∨ c = .limitExpiry ch ∨ c = .silenceExpiry ch) :
      ContextEvent s k c ((takeTickClaim ch s).context k) := by
    rcases takeTickClaim_context ch k s with e | ⟨rfl, e⟩ <;> rw [e]
    · exact .stands c
    · exact .tick hc
  have hlive {next : State} (h : live s next = .next t) (hnext : ContextEvent s k c (next.context k)) :
      ContextEvent s k c (t.context k) :=
    of_live (P := fun u => ContextEvent s k c (u.context k)) h (.stands c) hnext
  have hrow {act : Request → State → State} (hc : rowAct c = some act)
      (hact : ∀ r rest, s.rowFor r = c → ContextEvent s k c ((act r { s with requestFifo := rest }).context k)) :
      ContextEvent s k c (t.context k) :=
    of_row_head (P := fun u => ContextEvent s k c (u.context k)) hc h (.stands c) hact
  cases c
  case powerOnReset => exact absurd rfl hreset
  case resetRelease startOpen => exact absurd rfl (hrelease startOpen)
  case watchTick ch => exact hlive h (htick (.inl rfl))
  case limitExpiry ch =>
    refine hlive h ?_
    split
    · exact htick (.inr (.inl rfl))
    · exact .stands _
  case silenceExpiry ch =>
    refine hlive h ?_
    split
    · exact htick (.inr (.inr rfl))
    · exact .stands _
  case windowExpiry ch =>
    refine hlive h ?_
    rcases takeWindowClaim_context ch k s with e | ⟨rfl, tick, e⟩ <;> rw [e]
    · exact .stands _
    · exact .window tick
  case classifyComplete =>
    exact hlive h (completeClassification_context k s)
  case fieldTransmitStart =>
    refine hlive h ?_
    rcases startFieldSend_context k s with e | ⟨n, e⟩ <;> rw [e]
    · exact .stands _
    · exact .sent n
  case modifyContextChannel =>
    refine hlive h ?_
    rcases modifyNext_context k s with e | ⟨r, list, left, he, e⟩ <;> rw [e]
    · exact .stands _
    · exact .modified he
  case ackWatchChannel =>
    refine hlive h ?_
    rcases ackNext_context k s with e | e <;> rw [e]
    · exact .stands _
    · exact .acknowledged
  case readWatch =>
    refine hrow rfl fun r rest _ => ?_
    rcases answerReadWatch_context r k { s with requestFifo := rest } with e | e <;> rw [e]
    · exact .stands _
    · exact .watchRead
  case armSwapNext =>
    refine hrow rfl fun r rest _ => ?_
    rcases answerArmNext_context r k { s with requestFifo := rest } with e | e <;> rw [e]
    · exact .stands _
    · exact .swapped (.inr rfl)
  case readCounters =>
    refine hrow rfl fun r rest hhead => ?_
    rcases answerReadCounters_context r k { s with requestFifo := rest } with e | ⟨hclear, -⟩
    · rw [e]
      exact .stands _
    · exact absurd hclear (State.rowFor_readCounters hhead)
  case readCountersClear =>
    refine hrow rfl fun r rest _ => ?_
    rcases answerReadCounters_context r k { s with requestFifo := rest } with e | ⟨-, e⟩ <;> rw [e]
    · exact .stands _
    · exact .countersCleared
  case restartTraffic =>
    refine hrow rfl fun r rest _ => ?_
    rcases answerRestart_context r k { s with requestFifo := rest } with e | e <;> rw [e]
    · exact .stands _
    · exact .restarted
  case byteReceived link y => cases link <;> simp [writtenBy] at hw
  case lineDown link => cases link <;> simp [writtenBy] at hw
  all_goals simp [writtenBy, Item.ofAnswer] at hw

/-- The contexts right after a reset or its release. -/
theorem exec_reset_context {c : Instr} {s t : State} (h : exec c s = .next t)
    (hc : c = .powerOnReset ∨ ∃ startOpen, c = .resetRelease startOpen) (k : Channel) :
    t.context k = s.context k ∨ ∃ st, t.context k = Context.powerOn st := by
  rcases hc with rfl | ⟨startOpen, rfl⟩
  · cases h
    exact .inr ⟨_, State.reset_context k⟩
  · simp only [exec, execResetRelease, Host.Outcome.next.injEq] at h
    subst h
    split
    · exact .inr ⟨openingState startOpen, by simp [State.context, releaseReset]⟩
    · exact .inl rfl

/-- A property of contexts that the two resets establish and every other event keeps holds after every command. -/
theorem exec_forall_context {P : Context → Prop} {c : Instr} {s t : State} (h : exec c s = .next t)
    (hreset : ∀ st, P (Context.powerOn st)) (hs : ∀ k, P (s.context k))
    (hevent : ∀ k y, ContextEvent s k c y → P y) (k : Channel) : P (t.context k) := by
  by_cases hc : c = .powerOnReset ∨ ∃ startOpen, c = .resetRelease startOpen
  · rcases exec_reset_context h hc k with e | ⟨st, e⟩ <;> rw [e]
    · exact hs k
    · exact hreset st
  · exact hevent k _ (exec_contextEvent h (fun e => hc (.inl e)) (fun b e => hc (.inr ⟨b, e⟩)) k)

end Sys2Proof.Machine
end

section
/-! The watch fields of every channel agree after every event (R40, R49, R109 to R117). -/

-- One proof after another: side by side, each waiting thread takes a stack of its own.
set_option Elab.async false

namespace Sys2Proof.Machine

/-! ## The assignments in hand are within their ranges (R47) -/

/-- The assignments of a MODIFY CONTEXT in hand are within their ranges. -/
def Engine.Wf : Engine → Prop
  | .modifying _ list _ => list.all Assignment.wf = true
  | _ => True

theorem engineWf_iff (s : State) : EngineWf s ↔ s.engine.Wf := by
  cases h : s.engine <;> simp [EngineWf, Engine.Wf, h]

theorem validModifyContext_wf {ps : List Byte} {m : (Channel × Channel) × List Assignment}
    (h : validModifyContext ps = .ok m) : m.2.all Assignment.wf = true := by
  have hv := ((checked_ok_iff _ _ _).1 h).2
  split at hv
  · next range list _ hlist =>
    cases hv
    unfold parseAssignments at hlist
    split at hlist
    · exact List.all_eq_true.2 (parseAll_forall (fun _ _ => parseAssignment_wf) _ _ hlist)
    · cases hlist
  · cases hv

theorem engineWf_checked {α : Type} {v : Except Status α} {r : Request} {s : State} {act : α → State}
    (h : ∀ a, v = .ok a → (act a).engine.Wf) : (answerChecked v r s act).engine.Wf := by
  rcases answerChecked_cases v r s act with ⟨e, -, hv⟩ | ⟨a, ha, hv⟩ <;> rw [hv]
  · trivial
  · exact h a ha

/-- An engine that has answered has no assignments in hand. -/
theorem engineWf_idle {e : Engine} (h : e = .idle) : e.Wf := h ▸ trivial

/-- The engine after a request row has answered, or has a validated list of assignments in hand. -/
theorem engineWf_of_row {c : Instr} {act : Request → State → State} (hc : rowAct c = some act) {s : State}
    (he : s.engine = .idle) (r : Request) : (act r s).engine.Wf := by
  cases c <;> cases hc
  case duplicateRequest => exact engineWf_idle he
  case unknownCommandRequest => trivial
  case modifyContext => exact engineWf_checked fun _ => validModifyContext_wf
  case armSwapNext =>
    refine engineWf_checked fun _ _ => ?_
    unfold armNext
    repeat' split
    all_goals trivial
  case readCounters => exact engineWf_checked fun _ _ => by split <;> trivial
  case readCountersClear => exact engineWf_checked fun _ _ => by split <;> trivial
  case armSwapMarker =>
    refine engineWf_checked fun _ _ => ?_
    repeat' split
    all_goals trivial
  case writeRules | writeChain | writeMap | setDefaultVerdict | copyBank | clearStaging | cancelSwap =>
    exact engineWf_checked fun _ _ => by split <;> trivial
  all_goals exact engineWf_checked fun _ _ => trivial

theorem engineWf_modifyNext {s : State} (h : s.engine.Wf) : (modifyNext s).engine.Wf := by
  unfold modifyNext
  split
  · next he =>
    dsimp only
    split
    · trivial
    · rw [he] at h
      exact h
  · exact h

theorem engineWf_ackNext {s : State} (h : s.engine.Wf) : (ackNext s).engine.Wf := by
  unfold ackNext
  split
  · dsimp only
    split <;> trivial
  · exact h

theorem engineWf_completeCopy {s : State} (h : s.engine.Wf) : (completeCopy s).engine.Wf := by
  unfold completeCopy
  split
  · trivial
  · exact h

theorem engineWf_completeClear {s : State} (h : s.engine.Wf) : (completeClear s).engine.Wf := by
  unfold completeClear
  split
  · trivial
  · exact h

theorem Engine.elapse_wf {e : Engine} (h : e.Wf) : e.elapse.Wf := by
  cases e <;> exact h

theorem exec_engineWf {c : Instr} {s t : State} (h : exec c s = .next t) (hi : s.engine.Wf) : t.engine.Wf := by
  by_cases hw : .engine ∈ writtenBy c
  case neg => rwa [show t.engine = s.engine from exec_same h hw]
  cases hrow : rowAct c with
  | some act =>
    exact of_row (P := fun u => u.engine.Wf) hrow h hi fun r rest _ he _ =>
      engineWf_of_row (s := { s with requestFifo := rest }) hrow he r
  | none =>
    have hlive {next : State} (h : live s next = .next t) (hnext : next.engine.Wf) : t.engine.Wf :=
      of_live (P := fun u => u.engine.Wf) h hi hnext
    cases c
    case powerOnReset =>
      cases h
      trivial
    case modifyContextChannel => exact hlive h (engineWf_modifyNext hi)
    case ackWatchChannel => exact hlive h (engineWf_ackNext hi)
    case copyBankComplete => exact hlive h (engineWf_completeCopy hi)
    case clearStagingComplete => exact hlive h (engineWf_completeClear hi)
    case byteReceived link y => cases link <;> simp [writtenBy] at hw
    case lineDown link => cases link <;> simp [writtenBy] at hw
    all_goals simp [writtenBy, rowAct] at hw hrow

/-! ## The agreement of the watch fields (R109, R110) -/

/-- The agreement reads the Watch Limit, the phase, the Gap Count, and whether the State is CLOSED. -/
theorem Context.WatchSound.congr {c d : Context} (h : c.WatchSound) (hlimit : d.watchLimit = c.watchLimit)
    (hphase : d.watchPhase = c.watchPhase) (hgap : d.gapCount = c.gapCount)
    (hstate : d.state = .closed ↔ c.state = .closed) : d.WatchSound := by
  unfold Context.WatchSound
  rw [hlimit, hphase, hgap, hstate]
  exact h

/-- A watch that is to be off is off (R40, R109). -/
theorem Context.watchSound_off {c : Context} (hlimit : watchLimitWf c.watchLimit = true)
    (hoff : c.watchLimit = none ∨ c.state = .closed) (hphase : c.watchPhase = .off) (hgap : c.gapCount = 0) :
    c.WatchSound := by
  simp [Context.WatchSound, hlimit, hoff, hphase, hgap]

/-- A watch that is on, in a phase whose Gap Count fits. -/
theorem Context.watchSound_on {c : Context} (hwf : watchLimitWf c.watchLimit = true)
    (hon : ¬ (c.watchLimit = none ∨ c.state = .closed)) (hphase : c.watchPhase ≠ .off)
    (hidle : c.watchPhase = .idle → c.gapCount = 0)
    (hrunning : c.watchPhase = .running → c.gapCount ≤ c.watchLimit.getD 0)
    (hoverdue : c.watchPhase = .overdue → c.gapCount < 60000)
    (hsilent : c.watchPhase = .silent → c.gapCount = 60000) : c.WatchSound :=
  ⟨hwf, ⟨fun h => absurd h hphase, fun h => absurd h hon⟩, fun h => hidle (h.resolve_left hphase), hrunning, hoverdue,
    hsilent⟩

/-- A channel in a phase other than OFF has a Watch Limit and is not CLOSED. -/
theorem Context.WatchSound.on {c : Context} (h : c.WatchSound) (hphase : c.watchPhase ≠ .off) :
    ¬ (c.watchLimit = none ∨ c.state = .closed) := by
  obtain ⟨-, hoff, -⟩ := h
  exact fun hc => hphase (hoff.2 hc)

/-- A Watch Limit is below the Silence Threshold (Section 3.1). -/
theorem watchLimitWf_lt {v : Option Nat} (h : watchLimitWf v = true) : v.getD 0 < 60000 := by
  cases v with
  | none => decide
  | some n =>
    rw [watchLimitWf, Bool.and_eq_true, decide_eq_true_iff, decide_eq_true_iff] at h
    exact h.2

theorem Context.WatchSound.close {c : Context} (h : c.WatchSound) : c.close.WatchSound := by
  by_cases hc : c.state = .closed
  · rwa [Context.close_of_closed hc]
  · rw [Context.close_of_not_closed hc]
    exact Context.watchSound_off h.1 (.inr rfl) rfl rfl

theorem Context.WatchSound.quarantined {c : Context} (h : c.WatchSound) (hs : c.state ≠ .closed) :
    c.quarantined.WatchSound :=
  h.congr rfl rfl rfl (by simp [Context.quarantined, hs])

theorem Context.WatchSound.clearRun {c : Context} (h : c.WatchSound) : c.clearRun.WatchSound :=
  h.congr rfl rfl rfl Iff.rfl

/-! ### Ticks (R110 to R113) -/

/-- A tick that brings a limit expiry finds the channel RUNNING at its Watch Limit (R111). -/
theorem Context.limitReached_iff (c : Context) :
    c.limitReached = true ↔ c.watchPhase = .running ∧ ∃ limit, c.watchLimit = some limit ∧ limit < c.gapCount + 1 := by
  unfold Context.limitReached
  split
  · simp_all
  · next h => exact ⟨nofun, fun ⟨hp, limit, hl, _⟩ => absurd hl (h limit hp)⟩

/-- The Silence Action leaves the agreement (R112). -/
theorem Context.WatchSound.silenceAct {c : Context} (h : c.WatchSound) : c.silenceAct.WatchSound := by
  unfold Context.silenceAct
  split
  · exact h
  · split
    · next ho => exact h.quarantined (by simp [ho])
    · exact h
  · exact h.close

theorem tickLimit_context (ch : Channel) (c : Context) :
    (tickLimit ch c).1 = if c.limitReached then { c with gapCount := c.gapCount + 1, watchPhase := .overdue, late := true }
      else { c with gapCount := c.gapCount + 1 } := by
  unfold tickLimit limitExpiry
  split <;> rfl

theorem tickLimit_configuration (ch : Channel) (c : Context) :
    (tickLimit ch c).1.watchLimit = c.watchLimit ∧ (tickLimit ch c).1.state = c.state := by
  rw [tickLimit_context]
  split <;> exact ⟨rfl, rfl⟩

theorem WatchPhase.ticks_iff (p : WatchPhase) : p.ticks = true ↔ p = .running ∨ p = .overdue := by
  cases p <;> simp [WatchPhase.ticks]

/-- A tick short of the Silence Threshold: past its Watch Limit a RUNNING channel is OVERDUE (R110, R111). -/
theorem Context.WatchSound.tickLimit {c : Context} (h : c.WatchSound) (ch : Channel)
    (hphase : c.watchPhase = .running ∨ c.watchPhase = .overdue) (hcount : c.gapCount + 1 ≠ 60000) :
    (tickLimit ch c).1.WatchSound := by
  have hon := h.on (by rcases hphase with hp | hp <;> simp [hp])
  obtain ⟨hwf, -, -, hrunning, hoverdue, -⟩ := h
  have hbelow := watchLimitWf_lt hwf
  rw [tickLimit_context]
  split
  · next hreached =>
    obtain ⟨hp, -⟩ := c.limitReached_iff.1 hreached
    have := hrunning hp
    exact Context.watchSound_on hwf hon nofun nofun nofun (fun _ => by dsimp only; omega) nofun
  · next hreached =>
    refine Context.watchSound_on hwf hon ?_ ?_ (fun hp => ?_) (fun hp => ?_) ?_
    · rcases hphase with hp | hp <;> simp [hp]
    · rcases hphase with hp | hp <;> simp [hp]
    · obtain ⟨limit, hl⟩ := Option.ne_none_iff_exists'.1 fun hn => hon (.inl hn)
      have : ¬ limit < c.gapCount + 1 := fun hlt => hreached (c.limitReached_iff.2 ⟨hp, limit, hl, hlt⟩)
      simp only [hl, Option.getD_some]
      omega
    · have := hoverdue hp
      dsimp only
      omega
    · rcases hphase with hp | hp <;> simp [hp]

theorem Context.WatchSound.tickClaim {c : Context} (h : c.WatchSound) (ch : Channel) : (tickClaim ch c).1.WatchSound := by
  unfold Machine.tickClaim
  split
  · next hticks =>
    have hphase := c.watchPhase.ticks_iff.1 hticks
    split
    · obtain ⟨hlimit, hstate⟩ := tickLimit_configuration ch c
      refine Context.WatchSound.silenceAct
        (Context.watchSound_on (hlimit ▸ h.1) ?_ nofun nofun nofun nofun fun _ => rfl)
      rw [hlimit, hstate]
      exact h.on (by rcases hphase with hp | hp <;> simp [hp])
    · next hsilence =>
      refine h.tickLimit ch hphase ?_
      simpa [Context.silenceReached, hticks, Config.silenceThreshold] using hsilence
  · exact h

/-! ### Completions (R42, R114 to R117) -/

/-- A heartbeat leaves an OFF watch, and else begins an interval (R114 to R117). -/
theorem heartbeat_watch (ch : Channel) (st : ChannelState) (c : Context) :
    (heartbeat ch st c).1 = c
      ∨ (c.watchPhase ≠ .off ∧ (heartbeat ch st c).1.watchPhase = .running ∧ (heartbeat ch st c).1.gapCount = 0) := by
  cases hp : c.watchPhase
  case off => exact .inl (by simp [heartbeat, hp])
  all_goals exact .inr ⟨nofun, by simp [heartbeat, hp, Context.restartInterval],
    by simp [heartbeat, hp, Context.restartInterval]⟩

theorem Context.WatchSound.heartbeat {c : Context} (h : c.WatchSound) (ch : Channel) (st : ChannelState) :
    (heartbeat ch st c).1.WatchSound := by
  rcases heartbeat_watch ch st c with e | ⟨hp, hrun, hgap⟩
  · rwa [e]
  · have hframe := heartbeat_context ch st c
    have hlimit : (Machine.heartbeat ch st c).1.watchLimit = c.watchLimit := by rw [hframe]
    have hstate : (Machine.heartbeat ch st c).1.state = c.state := by rw [hframe]
    refine Context.watchSound_on (hlimit ▸ h.1) (by rw [hlimit, hstate]; exact h.on hp) ?_ ?_ ?_ ?_ ?_ <;>
      simp [hrun, hgap]

theorem Context.WatchSound.openHeartbeat {c : Context} (h : c.WatchSound) (v : Verdict) (ch : Channel) :
    (openHeartbeat v ch c).1.WatchSound := by
  unfold Machine.openHeartbeat
  split
  · exact h.heartbeat ch .opened
  · exact h

theorem Context.WatchSound.chainStep {c : Context} (h : c.WatchSound) (b : Bank) (now : Word32) (r : UpRecord) :
    (chainStep b now r c).context.WatchSound := by
  have hframe := chainStep_context b now r c
  exact h.congr (by rw [hframe]) (by rw [hframe]) (by rw [hframe]) (by rw [hframe])

theorem Context.WatchSound.overrideUsed {c : Context} (h : c.WatchSound) (v : Verdict) : (c.overrideUsed v).WatchSound := by
  unfold Context.overrideUsed
  split
  · exact h.congr rfl rfl rfl Iff.rfl
  · exact h

theorem Context.WatchSound.verdictState {c : Context} (h : c.WatchSound) (hs : c.state ≠ .closed) (v : Verdict) :
    (c.verdictState v).WatchSound := by
  unfold Context.verdictState
  split
  · exact h.quarantined hs
  · exact h

theorem Context.WatchSound.chainAction {c : Context} (h : c.WatchSound) (hs : c.state ≠ .closed) (d : Option ChainDef) :
    (c.chainAction d).WatchSound := by
  unfold Context.chainAction
  split
  · exact h
  · split
    · exact h
    · exact h.quarantined hs
    · exact h.close
    · exact h.congr rfl rfl rfl Iff.rfl

/-- No verdict closes a channel (R66 to R68): only a chain's completion action does. -/
theorem openChannel_not_closed (b : Bank) (now : Word32) (r : UpRecord) {c : Context} (v : Verdict)
    (ho : c.state ≠ .closed) :
    ((openHeartbeat v r.channel (chainStep b now r c).context).1.overrideUsed v).state ≠ .closed
      ∧ (((openHeartbeat v r.channel (chainStep b now r c).context).1.overrideUsed v).verdictState v).state ≠ .closed := by
  have hchain : (chainStep b now r c).context.state = c.state := by rw [chainStep_context]
  have hbeat : (openHeartbeat v r.channel (chainStep b now r c).context).1.state = c.state := by
    unfold openHeartbeat
    split
    · rw [heartbeat_context]
      exact hchain
    · exact hchain
  have hused : ((openHeartbeat v r.channel (chainStep b now r c).context).1.overrideUsed v).state = c.state := by
    unfold Context.overrideUsed
    split <;> exact hbeat
  refine ⟨hused ▸ ho, ?_⟩
  unfold Context.verdictState
  split
  · exact nofun
  · exact hused ▸ ho

theorem Context.WatchSound.judge {c : Context} (h : c.WatchSound) (b : Bank) (g : Byte) (now : Word32) (w : SwapState)
    (r : UpRecord) : (judge b g now w r c).context.WatchSound := by
  unfold Machine.judge
  split
  · exact h
  · exact (h.heartbeat r.channel .quarantined).congr rfl rfl rfl Iff.rfl
  · next ho =>
    obtain ⟨hused, hacted⟩ := openChannel_not_closed b now r (verdictOf b r).1 (c := c) (by simp [ho])
    have hbeat := (h.chainStep b now r).openHeartbeat (verdictOf b r).1 r.channel
    exact (((hbeat.overrideUsed _).verdictState hused _).chainAction hacted _).congr rfl rfl rfl Iff.rfl

theorem Context.WatchSound.counted {c : Context} (h : c.WatchSound) (placed : Bool) : (c.counted placed).WatchSound := by
  cases placed <;> exact h.congr rfl rfl rfl Iff.rfl

/-! ### MODIFY CONTEXT (R49) -/

/-- The assignments leave the status fields. -/
theorem foldl_assign_frame (list : List Assignment) (c : Context) :
    list.foldl assign c = { c with
      state := (list.foldl assign c).state
      chainBinding := (list.foldl assign c).chainBinding
      watchLimit := (list.foldl assign c).watchLimit
      silenceAction := (list.foldl assign c).silenceAction
      notify := (list.foldl assign c).notify
      overrideMap := (list.foldl assign c).overrideMap
      overrideCount := (list.foldl assign c).overrideCount } := by
  induction list generalizing c with
  | nil => rfl
  | cons a list ih =>
    rw [List.foldl_cons, ih]
    cases a <;> rfl

/-- A Watch Limit in range stays in range (R47). -/
theorem foldl_assign_watchLimitWf {list : List Assignment} (hlist : list.all Assignment.wf = true) {c : Context}
    (h : watchLimitWf c.watchLimit = true) : watchLimitWf (list.foldl assign c).watchLimit = true := by
  induction list generalizing c with
  | nil => exact h
  | cons a list ih =>
    rw [List.all_cons, Bool.and_eq_true] at hlist
    refine ih hlist.2 ?_
    cases a
    case watchLimit => exact hlist.1
    all_goals exact h

/-- Without an assignment of it the Watch Limit stands. -/
theorem foldl_assign_watchLimit {list : List Assignment} (hlist : list.any Assignment.isWatchLimit = false) (c : Context) :
    (list.foldl assign c).watchLimit = c.watchLimit := by
  induction list generalizing c with
  | nil => rfl
  | cons a list ih =>
    rw [List.any_cons, Bool.or_eq_false_iff] at hlist
    rw [List.foldl_cons, ih hlist.2]
    cases a
    case watchLimit => cases hlist.1
    all_goals rfl

/-- A settled chain leaves the State and the watch fields. -/
theorem settleChain_frame (list : List Assignment) (c : Context) :
    settleChain list c = { c with
      chainProgress := (settleChain list c).chainProgress
      chainDeadline := (settleChain list c).chainDeadline } := by
  unfold settleChain
  split <;> rfl

/-- A closing that is settled leaves a channel that is not CLOSED. -/
theorem settleClosing_of_not_closed {c : Context} (before : ChannelState) (h : c.state ≠ .closed) :
    settleClosing before c = c := if_neg fun hc => h hc.1

theorem settleClosing_configuration (before : ChannelState) (c : Context) :
    (settleClosing before c).state = c.state ∧ (settleClosing before c).watchLimit = c.watchLimit := by
  unfold settleClosing
  split <;> exact ⟨rfl, rfl⟩

theorem Context.WatchSound.modifyChannel {c : Context} (h : c.WatchSound) {list : List Assignment}
    (hlist : list.all Assignment.wf = true) (ch : Channel) : (modifyChannel ch list c).1.WatchSound := by
  unfold Machine.modifyChannel
  have hchain := settleChain_frame list (list.foldl assign c)
  have hassign := foldl_assign_frame list c
  generalize hw : settleChain list (list.foldl assign c) = w at hchain ⊢
  have hlimit : w.watchLimit = (list.foldl assign c).watchLimit := by rw [hchain]
  have hphase : w.watchPhase = c.watchPhase := by rw [hchain, hassign]
  have hgap : w.gapCount = c.gapCount := by rw [hchain, hassign]
  have hwf : watchLimitWf w.watchLimit = true := hlimit ▸ foldl_assign_watchLimitWf hlist h.1
  obtain ⟨hstate, hlimit'⟩ := settleClosing_configuration c.state w
  obtain ⟨hwf', -, hidle, hrunning, hoverdue, hsilent⟩ := h
  have hbelow := watchLimitWf_lt hwf'
  unfold settleWatch
  split
  · next hoff => exact Context.watchSound_off (hlimit' ▸ hwf) hoff.symm rfl rfl
  · next hon =>
    rw [hstate, hlimit'] at hon
    rw [settleClosing_of_not_closed _ fun hc => hon (.inl hc)]
    rw [or_comm] at hon
    split
    · exact Context.watchSound_on hwf hon nofun (fun _ => rfl) nofun nofun nofun
    · next hp =>
      split
      · next hexpires =>
        obtain ⟨hrun, -⟩ := w.belowGap_iff.1 hexpires.2
        have := hrunning (hphase ▸ hrun)
        exact Context.watchSound_on hwf hon nofun nofun nofun (fun _ => by simp only [limitExpiry]; omega) nofun
      · next hexpires =>
        refine Context.watchSound_on hwf hon hp ?_ (fun hrun => ?_) ?_ ?_
        · rw [hphase, hgap]
          exact fun hi => hidle (.inr hi)
        · cases hany : list.any Assignment.isWatchLimit with
          | false =>
            rw [hlimit, foldl_assign_watchLimit hany, hgap]
            exact hrunning (hphase ▸ hrun)
          | true =>
            obtain ⟨limit, hl⟩ := Option.ne_none_iff_exists'.1 fun hn => hon (.inl hn)
            have : ¬ limit < w.gapCount := fun hlt => hexpires ⟨hany, w.belowGap_iff.2 ⟨hrun, limit, hl, hlt⟩⟩
            rw [hl, Option.getD_some]
            exact Nat.le_of_not_lt this
        · rw [hphase, hgap]
          exact hoverdue
        · rw [hphase, hgap]
          exact hsilent

/-! ### Every event -/

theorem Context.WatchSound.restart {c : Context} (h : c.WatchSound) : c.restart.WatchSound := by
  by_cases hoff : c.watchLimit = none ∨ c.state = .closed
  · exact Context.watchSound_off h.1 hoff (if_pos hoff) rfl
  · have hphase : c.restart.watchPhase = .idle := if_neg hoff
    exact Context.watchSound_on h.1 hoff (by simp [hphase]) (fun _ => rfl) (by simp [hphase]) (by simp [hphase])
      (by simp [hphase])

theorem Context.powerOn_watchSound_of (st : ChannelState) : (Context.powerOn st).WatchSound :=
  Context.watchSound_off rfl (.inl rfl) rfl rfl

theorem ContextEvent.watchSound {s : State} {k : Channel} {c : Instr} {y : Context} (he : ContextEvent s k c y)
    (hengine : s.engine.Wf) (h : (s.context k).WatchSound) : y.WatchSound := by
  cases he with
  | stands => exact h
  | tick => exact h.tickClaim k
  | window tick =>
    unfold expireWindow
    split
    · exact h.clearRun
    · exact h
  | completed _ _ placed hy =>
    rcases hy with rfl | rfl
    · exact (h.judge ..).counted placed
    · exact ((h.judge ..).counted placed).clearRun
  | swapped => exact h.clearRun
  | modified hmod =>
    rw [hmod] at hengine
    exact h.modifyChannel hengine k
  | restarted => exact h.restart
  | sent | watchRead | acknowledged | countersCleared => exact h.congr rfl rfl rfl Iff.rfl

/-- Settles O54: the engine's assignments stay in range, and each event leaves the context of each channel in agreement. -/
theorem watchAgreementIsKept : Obligations.WatchAgreementIsKept := by
  refine .of_exec (fun s l hi => hi) (fun s ⟨hengine, hctx⟩ => ⟨?_, hctx⟩) fun c s t ⟨hengine, hctx⟩ h => ?_
  · exact (engineWf_iff _).2 (Engine.elapse_wf ((engineWf_iff s).1 hengine))
  · rw [engineWf_iff] at hengine
    exact ⟨(engineWf_iff t).2 (exec_engineWf h hengine), exec_forall_context h Context.powerOn_watchSound_of hctx
      fun k y he => he.watchSound hengine (hctx k)⟩

end Sys2Proof.Machine
end

section
/-! Every chain run stays below the Step Count of its chain in the active bank (R40, R79, R90, R91, R131). -/

-- One proof after another: side by side, each waiting thread takes a stack of its own.
set_option Elab.async false

namespace Sys2Proof.Machine

/-! ## The soundness of a run (R79) -/

section

variable {bank : Bank} {c d : Context}

/-- The soundness of a run reads the run, the Chain Binding, and whether the State is CLOSED. -/
theorem Context.RunSound.congr (h : c.RunSound bank) (hprogress : d.chainProgress = c.chainProgress)
    (hdeadline : d.chainDeadline = c.chainDeadline) (hbinding : d.chainBinding = c.chainBinding)
    (hstate : d.state = .closed → c.state = .closed) : d.RunSound bank := by
  obtain ⟨hnone, hclosed, hbelow⟩ := h
  rw [← hprogress, ← hdeadline] at hnone
  rw [← hprogress] at hclosed hbelow
  rw [Context.boundChain, ← hbinding] at hbelow
  exact ⟨hnone, fun hc => hclosed (hstate hc), hbelow⟩

/-- A cleared run is sound under every bank. -/
theorem Context.runSound_of_cleared (hprogress : c.chainProgress = 0) (hdeadline : c.chainDeadline = none) :
    c.RunSound bank :=
  ⟨fun _ => hdeadline, fun _ => hprogress, fun h => absurd hprogress h⟩

theorem Context.runSound_clearRun (bank : Bank) (c : Context) : c.clearRun.RunSound bank :=
  Context.runSound_of_cleared rfl rfl

/-- A run on an open channel, below the Step Count of the chain that it is bound to. -/
theorem Context.runSound_of_below {k : ChainId × ChainDef} (hstate : c.state ≠ .closed)
    (hbound : c.boundChain bank = some k) (hpos : c.chainProgress ≠ 0) (hbelow : c.chainProgress < k.2.steps.length) :
    c.RunSound bank :=
  ⟨fun h => absurd h hpos, fun h => absurd h hstate, fun _ => ⟨k, hbound, hbelow⟩⟩

theorem Context.RunSound.close (h : c.RunSound bank) : c.close.RunSound bank := by
  by_cases hc : c.state = .closed
  · rwa [Context.close_of_closed hc]
  · rw [Context.close_of_not_closed hc]
    exact Context.runSound_of_cleared rfl rfl

theorem Context.RunSound.quarantined (h : c.RunSound bank) : c.quarantined.RunSound bank :=
  h.congr rfl rfl rfl nofun

/-! ## The events of a context -/

theorem Context.RunSound.silenceAct (h : c.RunSound bank) : c.silenceAct.RunSound bank := by
  unfold Context.silenceAct
  split
  · exact h
  · split
    · exact h.quarantined
    · exact h
  · exact h.close

theorem Context.RunSound.tickClaim (h : c.RunSound bank) (ch : Channel) : (tickClaim ch c).1.RunSound bank := by
  have htick : (tickLimit ch c).1.RunSound bank := by
    rw [tickLimit_context]
    split <;> exact h.congr rfl rfl rfl id
  unfold Machine.tickClaim
  split
  · split
    · exact Context.RunSound.silenceAct (htick.congr rfl rfl rfl id)
    · exact htick
  · exact h

theorem Context.RunSound.heartbeat (h : c.RunSound bank) (ch : Channel) (st : ChannelState) :
    (heartbeat ch st c).1.RunSound bank := by
  rw [heartbeat_context]
  exact h.congr rfl rfl rfl id

theorem Context.RunSound.openHeartbeat (h : c.RunSound bank) (v : Verdict) (ch : Channel) :
    (openHeartbeat v ch c).1.RunSound bank := by
  unfold Machine.openHeartbeat
  split
  · exact h.heartbeat ch .opened
  · exact h

/-- An advance stops short of the Step Count; a restart at step 0 finds a chain of more than one step, since the run that
it breaks stood at a step above 0 (R79, R82, R85). -/
theorem Context.RunSound.chainStep (h : c.RunSound bank) (ho : c.state ≠ .closed) (now : Word32) (r : UpRecord) :
    (chainStep bank now r c).context.RunSound bank := by
  unfold Machine.chainStep
  split
  · exact h
  · next n d hbound =>
    cases hout : stepOutcome d bank r c.chainProgress
    case completed => exact Context.runSound_clearRun bank c
    case broken => exact Context.runSound_clearRun bank c
    case passedOver => exact h
    case advanced =>
      refine Context.runSound_of_below (k := (n, d)) ho hbound (Nat.succ_ne_zero _) ?_
      unfold stepOutcome at hout
      split at hout
      · split at hout
        · assumption
        · cases hout
      · split at hout
        · cases hout
        · split at hout <;> cases hout
    case restarted =>
      refine Context.runSound_of_below (k := (n, d)) ho hbound Nat.one_ne_zero ?_
      have hpos : 0 < c.chainProgress := by
        unfold stepOutcome at hout
        split at hout
        · split at hout <;> cases hout
        · split at hout
          · cases hout
          · split at hout
            · next hp => exact hp.1
            · cases hout
      obtain ⟨k, hk, hbelow⟩ := h.2.2 hpos.ne'
      rw [hbound] at hk
      cases hk
      exact Nat.lt_of_le_of_lt hpos hbelow

theorem Context.RunSound.overrideUsed (h : c.RunSound bank) (v : Verdict) : (c.overrideUsed v).RunSound bank := by
  unfold Context.overrideUsed
  split
  · exact h.congr rfl rfl rfl id
  · exact h

theorem Context.RunSound.verdictState (h : c.RunSound bank) (v : Verdict) : (c.verdictState v).RunSound bank := by
  unfold Context.verdictState
  split
  · exact h.quarantined
  · exact h

theorem Context.RunSound.chainAction (h : c.RunSound bank) (done : Option ChainDef) :
    (c.chainAction done).RunSound bank := by
  unfold Context.chainAction
  split
  · exact h
  · split
    · exact h
    · exact h.quarantined
    · exact h.close
    · exact h.congr rfl rfl rfl id

theorem Context.RunSound.judge (h : c.RunSound bank) (g : Byte) (now : Word32) (w : SwapState) (r : UpRecord) :
    (judge bank g now w r c).context.RunSound bank := by
  unfold Machine.judge
  split
  · exact h
  · exact (h.heartbeat r.channel .quarantined).congr rfl rfl rfl id
  · next ho =>
    have hbeat := (h.chainStep (by simp [ho]) now r).openHeartbeat (verdictOf bank r).1 r.channel
    exact (((hbeat.overrideUsed _).verdictState _).chainAction _).congr rfl rfl rfl id

theorem Context.RunSound.counted (h : c.RunSound bank) (placed : Bool) : (c.counted placed).RunSound bank := by
  cases placed <;> exact h.congr rfl rfl rfl id

/-- Without an assignment of it the Chain Binding stands. -/
theorem foldl_assign_chainBinding {list : List Assignment} (hlist : list.any Assignment.isChainBinding = false)
    (c : Context) : (list.foldl assign c).chainBinding = c.chainBinding := by
  induction list generalizing c with
  | nil => rfl
  | cons a list ih =>
    rw [List.any_cons, Bool.or_eq_false_iff] at hlist
    rw [List.foldl_cons, ih hlist.2]
    cases a
    case chainBinding => cases hlist.1
    all_goals rfl

theorem settleWatch_run (ch : Channel) (list : List Assignment) (h : c.RunSound bank) :
    (settleWatch ch list c).1.RunSound bank := by
  unfold settleWatch
  split
  · exact h.congr rfl rfl rfl id
  · split
    · exact h.congr rfl rfl rfl id
    · split
      · exact h.congr rfl rfl rfl id
      · exact h

/-- A new Chain Binding and a closing clear the run (R40, R49); otherwise the run and its chain stand. -/
theorem Context.RunSound.modifyChannel (h : c.RunSound bank) (list : List Assignment) (ch : Channel) :
    (modifyChannel ch list c).1.RunSound bank := by
  unfold Machine.modifyChannel
  refine settleWatch_run ch list ?_
  unfold settleClosing
  split
  · exact Context.runSound_of_cleared rfl rfl
  · next hopen =>
    unfold settleChain at hopen ⊢
    cases hany : list.any Assignment.isChainBinding with
    | true => exact Context.runSound_clearRun bank _
    | false =>
      rw [hany] at hopen
      have hframe := foldl_assign_frame list c
      refine h.congr (by rw [hframe]; rfl) (by rw [hframe]; rfl) (foldl_assign_chainBinding hany c) fun hc => ?_
      by_contra hbefore
      exact hopen ⟨hc, hbefore⟩

end

/-- Every event keeps a run sound under the bank that was active, when the Classifier uses that bank (R60). -/
theorem ContextEvent.runSound {s : State} {k : Channel} {c : Instr} {y : Context} (he : ContextEvent s k c y)
    (hclassifier : ClassifierSound s) (h : (s.context k).RunSound s.activeBank) : y.RunSound s.activeBank := by
  cases he with
  | stands => exact h
  | tick => exact h.tickClaim k
  | window tick =>
    unfold expireWindow
    split
    · exact Context.runSound_clearRun _ _
    · exact h
  | @completed i bank g r hbusy _ placed _ hy =>
    rw [ClassifierSound, hbusy] at hclassifier
    rw [hclassifier.1] at hy
    rcases hy with rfl | rfl
    · exact (h.judge g s.timebase.count s.swap r).counted placed
    · exact Context.runSound_clearRun _ _
  | swapped => exact Context.runSound_clearRun _ _
  | modified => exact h.modifyChannel _ k
  | restarted => exact Context.runSound_of_cleared rfl rfl
  | sent | watchRead | acknowledged | countersCleared => exact h.congr rfl rfl rfl id

/-! ## The active bank and the Classifier (R60, R125, R131) -/

/-- A swap with the Classifier IDLE: the banks stand, and every run is cleared (R131). -/
def SwapDone (t : State) : Prop :=
  t.classifier = .idle ∧ ∀ k, (t.context k).chainProgress = 0 ∧ (t.context k).chainDeadline = none

/-- The active bank and the Generation Number stand, or a swap is done. -/
def ActiveKept (s t : State) : Prop :=
  (t.activeBank = s.activeBank ∧ t.active = s.active ∧ t.generation = s.generation) ∨ SwapDone t

theorem ActiveKept.of_items {s t : State} (ha : t.bankA = s.bankA) (hb : t.bankB = s.bankB) (hactive : t.active = s.active)
    (hgeneration : t.generation = s.generation) : ActiveKept s t := by
  refine .inl ⟨?_, hactive, hgeneration⟩
  rw [State.activeBank, State.activeBank, hactive]
  cases s.active
  · exact ha
  · exact hb

theorem ActiveKept.setStaging (s : State) (bank : Bank) : ActiveKept s (s.setStaging bank) :=
  .inl ⟨s.activeBank_setStaging bank, by simp, by simp⟩

theorem State.performSwap_done {s : State} (h : s.classifier = .idle) (trigger : SwapTrigger) :
    SwapDone (s.performSwap trigger) :=
  ⟨h, fun k => by rw [State.context_performSwap]; exact ⟨rfl, rfl⟩⟩

/-- A completion performs no swap, or one (R74). -/
theorem State.swapAtCompletion_cases (s : State) (w : SwapState) (marker : Bool) (ch : Channel) :
    s.swapAtCompletion w marker ch = s ∨ ∃ trigger, s.swapAtCompletion w marker ch = s.performSwap trigger := by
  unfold State.swapAtCompletion
  split
  · exact .inl rfl
  · exact .inr ⟨_, rfl⟩
  · split
    · exact .inr ⟨_, rfl⟩
    · exact .inl rfl

theorem completeClassification_activeKept (s : State) : ActiveKept s (completeClassification s) := by
  unfold completeClassification
  split
  · exact .of_items rfl rfl rfl rfl
  · split
    · unfold completeRecord
      dsimp only
      rcases State.swapAtCompletion_cases _ s.swap _ _ with e | ⟨trigger, e⟩ <;> rw [e]
      · exact .of_items (by simp) (by simp) (by simp) (by simp)
      · exact .inr (State.performSwap_done (by simp) trigger)
    · exact .of_items rfl rfl rfl rfl

theorem answerWriter_activeKept {α : Type} (v : Except Status α) (write : α → Bank → Bank) (r : Request) (s : State) :
    ActiveKept s (answerWriter v write r s) := by
  unfold answerWriter
  rcases answerChecked_cases v r s _ with ⟨e, -, h⟩ | ⟨a, -, h⟩ <;> rw [h]
  · exact .of_items rfl rfl rfl rfl
  · split
    · exact .of_items rfl rfl rfl rfl
    · exact ActiveKept.setStaging s _

theorem completeCopy_activeKept (s : State) : ActiveKept s (completeCopy s) := by
  unfold completeCopy
  split
  · exact ActiveKept.setStaging s _
  · exact .of_items rfl rfl rfl rfl

theorem completeClear_activeKept (s : State) : ActiveKept s (completeClear s) := by
  unfold completeClear
  split
  · exact ActiveKept.setStaging s _
  · exact .of_items rfl rfl rfl rfl

/-- ARM SWAP NEXT swaps at once only with an IDLE Classifier (R133). -/
theorem answerArmNext_activeKept (r : Request) (s : State) : ActiveKept s (answerArmNext r s) := by
  unfold answerArmNext
  rcases answerChecked_cases (validArmNext r.params) r s _ with ⟨e, -, h⟩ | ⟨_, -, h⟩ <;> rw [h]
  · exact .of_items rfl rfl rfl rfl
  · split
    · exact .of_items rfl rfl rfl rfl
    · unfold armNext
      split
      · next hidle => exact .inr (State.performSwap_done hidle .next)
      · exact .of_items rfl rfl rfl rfl

theorem exec_activeKept {c : Instr} {s t : State} (h : exec c s = .next t) : ActiveKept s t := by
  by_cases hw : ∃ x ∈ [Item.bankA, .bankB, .active, .generation], x ∈ writtenBy c
  case neg =>
    have hsame (x : Item) (hx : x ∈ [Item.bankA, .bankB, .active, .generation]) : x.Same s t :=
      exec_same h fun hc => hw ⟨x, hx, hc⟩
    exact .of_items (hsame .bankA (by simp)) (hsame .bankB (by simp)) (hsame .active (by simp)) (hsame .generation (by simp))
  have hstands : ActiveKept s s := .of_items rfl rfl rfl rfl
  cases c
  case powerOnReset =>
    cases h
    exact .inr ⟨rfl, fun k => ⟨congrArg Context.chainProgress (State.reset_context k),
      congrArg Context.chainDeadline (State.reset_context k)⟩⟩
  case classifyComplete => exact of_live h hstands (completeClassification_activeKept s)
  case copyBankComplete => exact of_live h hstands (completeCopy_activeKept s)
  case clearStagingComplete => exact of_live h hstands (completeClear_activeKept s)
  case armSwapNext =>
    exact of_row rfl h hstands fun r rest _ _ _ => answerArmNext_activeKept r { s with requestFifo := rest }
  case writeRules | writeChain | writeMap | setDefaultVerdict =>
    exact of_row rfl h hstands fun r rest _ _ _ => answerWriter_activeKept _ _ r { s with requestFifo := rest }
  case byteReceived link y => cases link <;> simp [writtenBy] at hw
  case lineDown link => cases link <;> simp [writtenBy] at hw
  all_goals simp [writtenBy, Item.ofAnswer] at hw

/-- The Classifier of `t` is that of `s`, IDLE, or BUSY with the bank and the generation of `s` (R59). -/
def ClassifierMoved (s t : State) : Prop :=
  t.classifier = s.classifier ∨ t.classifier = .idle ∨ ∃ i, t.classifier = .busy i s.active s.generation

theorem exec_classifierMoved {c : Instr} {s t : State} (h : exec c s = .next t) : ClassifierMoved s t := by
  by_cases hw : .classifier ∈ writtenBy c
  case neg => exact .inl (exec_same h hw)
  cases c
  case powerOnReset =>
    cases h
    exact .inr (.inl rfl)
  case classifyTake =>
    refine of_live (P := ClassifierMoved s) h (.inl rfl) ?_
    unfold takeForClassification
    split
    · split
      · exact .inr (.inr ⟨_, rfl⟩)
      · exact .inl rfl
    · exact .inl rfl
  case classifyComplete =>
    refine of_live (P := ClassifierMoved s) h (.inl rfl) ?_
    unfold completeClassification
    split
    · exact .inl rfl
    · split
      · exact .inr (.inl (completeRecord_classifier ..))
      · exact .inl rfl
  case restartTraffic =>
    refine of_row (P := ClassifierMoved s) rfl h (.inl rfl) fun r rest _ _ _ => ?_
    unfold answerRestart
    rcases answerChecked_cases (validEmpty r.params) r { s with requestFifo := rest } _ with ⟨e, -, h⟩ | ⟨_, -, h⟩ <;>
      rw [h]
    · exact .inl rfl
    · exact .inr (.inl rfl)
  case byteReceived link y => cases link <;> simp [writtenBy] at hw
  case lineDown link => cases link <;> simp [writtenBy] at hw
  all_goals simp [writtenBy, Item.ofAnswer] at hw

theorem classifierSound_of_idle {s : State} (h : s.classifier = .idle) : ClassifierSound s := by
  rw [ClassifierSound, h]
  trivial

theorem exec_classifierSound {c : Instr} {s t : State} (h : exec c s = .next t) (hi : ClassifierSound s) :
    ClassifierSound t := by
  rcases exec_activeKept h with ⟨-, hactive, hgeneration⟩ | hswap
  · rcases exec_classifierMoved h with hsame | hidle | ⟨i, htake⟩
    · rw [ClassifierSound, hsame, hactive, hgeneration]
      exact hi
    · exact classifierSound_of_idle hidle
    · rw [ClassifierSound, htake, hactive, hgeneration]
      exact ⟨rfl, rfl⟩
  · exact classifierSound_of_idle hswap.1

/-- Settles O55: a swap clears every run, and any other event keeps each run sound under the bank that stays active. -/
theorem chainRunsStaySound : Obligations.ChainRunsStaySound := by
  refine .of_exec (fun s l hi => hi) (fun s hi => hi) fun c s t ⟨hclassifier, hctx⟩ h =>
    ⟨exec_classifierSound h hclassifier, ?_⟩
  rcases exec_activeKept h with ⟨hbank, -, -⟩ | ⟨-, hcleared⟩
  · rw [hbank]
    exact exec_forall_context h (fun st => Context.runSound_of_cleared rfl rfl) hctx fun k y he =>
      he.runSound hclassifier (hctx k)
  · exact fun k => Context.runSound_of_cleared (hcleared k).1 (hcleared k).2

end Sys2Proof.Machine
end

section
/-! Each field of a context changes only in its own events (R35, R37, R51, R90, R109 to R120). -/

-- One proof after another: side by side, each waiting thread takes a stack of its own.
set_option Elab.async false

namespace Sys2Proof.Machine

/-! ## What each event of a context leaves -/

theorem silenceAct_frame (c : Context) :
    c.silenceAct = { c with
      state := c.silenceAct.state
      watchPhase := c.silenceAct.watchPhase
      gapCount := c.silenceAct.gapCount
      chainProgress := c.silenceAct.chainProgress
      chainDeadline := c.silenceAct.chainDeadline } := by
  unfold Context.silenceAct Context.close
  repeat' split
  all_goals rfl

/-- A tick claim writes the State, the run, the phase, the Gap Count and LATE alone (R110 to R113). -/
theorem tickClaim_frame (ch : Channel) (c : Context) :
    (tickClaim ch c).1 = { c with
      state := (tickClaim ch c).1.state
      chainProgress := (tickClaim ch c).1.chainProgress
      chainDeadline := (tickClaim ch c).1.chainDeadline
      watchPhase := (tickClaim ch c).1.watchPhase
      gapCount := (tickClaim ch c).1.gapCount
      late := (tickClaim ch c).1.late } := by
  unfold tickClaim tickLimit
  split
  · split
    · dsimp only [silenceExpiry]
      rw [silenceAct_frame]
      split <;> rfl
    · split <;> rfl
  · rfl

/-- A tick claim leaves LATE, or sets it on a RUNNING channel (R111). -/
theorem tickClaim_late (ch : Channel) (c : Context) :
    (tickClaim ch c).1.late = c.late ∨ (c.watchPhase = .running ∧ (tickClaim ch c).1.late = true) := by
  have htick : (tickLimit ch c).1.late = c.late ∨ (c.watchPhase = .running ∧ (tickLimit ch c).1.late = true) := by
    rw [tickLimit_context]
    split
    · next h => exact .inr ⟨(c.limitReached_iff.1 h).1, rfl⟩
    · exact .inl rfl
  unfold tickClaim
  split
  · split
    · dsimp only [silenceExpiry]
      rw [silenceAct_frame]
      exact htick
    · exact htick
  · exact .inl rfl

theorem settleWatch_frame (ch : Channel) (list : List Assignment) (c : Context) :
    (settleWatch ch list c).1 = { c with
      watchPhase := (settleWatch ch list c).1.watchPhase
      gapCount := (settleWatch ch list c).1.gapCount
      late := (settleWatch ch list c).1.late } := by
  unfold settleWatch
  repeat' split
  all_goals rfl

theorem settleClosing_frame (before : ChannelState) (c : Context) :
    settleClosing before c = { c with
      watchPhase := (settleClosing before c).watchPhase
      gapCount := (settleClosing before c).gapCount
      chainProgress := (settleClosing before c).chainProgress
      chainDeadline := (settleClosing before c).chainDeadline } := by
  unfold settleClosing
  split <;> rfl

/-- A MODIFY CONTEXT leaves the Last Gap, HELD, NEW, the Last Rule Ref and the counters (R49). -/
theorem modifyChannel_frame (ch : Channel) (list : List Assignment) (c : Context) :
    (modifyChannel ch list c).1 = { c with
      state := (modifyChannel ch list c).1.state
      chainBinding := (modifyChannel ch list c).1.chainBinding
      watchLimit := (modifyChannel ch list c).1.watchLimit
      silenceAction := (modifyChannel ch list c).1.silenceAction
      notify := (modifyChannel ch list c).1.notify
      overrideMap := (modifyChannel ch list c).1.overrideMap
      overrideCount := (modifyChannel ch list c).1.overrideCount
      chainProgress := (modifyChannel ch list c).1.chainProgress
      chainDeadline := (modifyChannel ch list c).1.chainDeadline
      watchPhase := (modifyChannel ch list c).1.watchPhase
      gapCount := (modifyChannel ch list c).1.gapCount
      late := (modifyChannel ch list c).1.late } := by
  unfold modifyChannel
  rw [settleWatch_frame, settleClosing_frame, settleChain_frame, foldl_assign_frame]

/-- A closing that is settled finds the phase that stood before, or stops the watch (R40, R49). -/
theorem settleClosing_watchPhase (before : ChannelState) (c : Context) :
    (settleClosing before c).watchPhase = c.watchPhase ∨ (settleClosing before c).watchPhase = .off := by
  unfold settleClosing
  split
  · exact .inr rfl
  · exact .inl rfl

/-- A MODIFY CONTEXT leaves LATE, or sets it on a RUNNING channel (R49, R111). -/
theorem modifyChannel_late (ch : Channel) (list : List Assignment) (c : Context) :
    (modifyChannel ch list c).1.late = c.late
      ∨ (c.watchPhase = .running ∧ (modifyChannel ch list c).1.late = true) := by
  have hframe := (settleChain_frame list (list.foldl assign c)).trans (by rw [foldl_assign_frame])
  unfold modifyChannel
  generalize settleChain list (list.foldl assign c) = w at hframe ⊢
  have hlate : (settleClosing c.state w).late = c.late := by rw [settleClosing_frame, hframe]
  unfold settleWatch
  repeat' split
  · exact .inl hlate
  · exact .inl hlate
  · next hexpires =>
    obtain ⟨hrun, -⟩ := (Context.belowGap_iff _).1 hexpires.2
    refine .inr ⟨?_, rfl⟩
    rcases settleClosing_watchPhase c.state w with hp | hp
    · rw [← hrun, hp, hframe]
    · rw [hp] at hrun
      cases hrun
  · exact .inl hlate

/-! ## The Last Gap, HELD and NEW at a completion (R115 to R118) -/

/-- The Last Gap with its flags HELD and NEW. -/
def Context.gap (c : Context) : Option Nat × Bool × Bool := (c.lastGap, c.held, c.new)

/-- The capture of an interval that ends in the phase of `x`, with HELD clear: the Last Gap with NEW, and HELD after OVERDUE
and SILENT (R115 to R117). -/
def GapCaptured (x : Context) (gap : Option Nat × Bool × Bool) : Prop :=
  x.held = false ∧
    ((x.watchPhase = .running ∧ gap = (some x.gapCount, false, true))
      ∨ (x.watchPhase = .overdue ∧ gap = (some x.gapCount, true, true))
      ∨ (x.watchPhase = .silent ∧ gap = (some 60000, true, true)))

theorem heartbeat_gap (ch : Channel) (st : ChannelState) (c : Context) :
    (heartbeat ch st c).1.gap = c.gap ∨ GapCaptured c (heartbeat ch st c).1.gap := by
  cases hheld : c.held <;> cases hp : c.watchPhase <;>
    simp [heartbeat, GapCaptured, Context.gap, Context.captureGap, Context.restartInterval, hp, hheld,
      Config.silenceThreshold]

/-- The chain step leaves what a heartbeat reads and captures. -/
theorem chainStep_gap (bank : Bank) (now : Word32) (r : UpRecord) (c : Context) :
    (chainStep bank now r c).context.gap = c.gap
      ∧ ∀ gap, GapCaptured (chainStep bank now r c).context gap → GapCaptured c gap := by
  rw [chainStep_context]
  exact ⟨rfl, fun _ => id⟩

theorem openHeartbeat_gap (v : Verdict) (ch : Channel) (c : Context) :
    (openHeartbeat v ch c).1.gap = c.gap ∨ GapCaptured c (openHeartbeat v ch c).1.gap := by
  unfold openHeartbeat
  split
  · exact heartbeat_gap ch .opened c
  · exact .inl rfl

/-- The Action of a verdict and the completion action of a chain write the State, the Override, and at a closing the run and
the watch (R42). -/
theorem Context.acted_frame (c : Context) (v : Verdict) (done : Option ChainDef) :
    ((c.overrideUsed v).verdictState v).chainAction done = { c with
      state := (((c.overrideUsed v).verdictState v).chainAction done).state
      overrideMap := (((c.overrideUsed v).verdictState v).chainAction done).overrideMap
      overrideCount := (((c.overrideUsed v).verdictState v).chainAction done).overrideCount
      chainProgress := (((c.overrideUsed v).verdictState v).chainAction done).chainProgress
      chainDeadline := (((c.overrideUsed v).verdictState v).chainAction done).chainDeadline
      watchPhase := (((c.overrideUsed v).verdictState v).chainAction done).watchPhase
      gapCount := (((c.overrideUsed v).verdictState v).chainAction done).gapCount } := by
  have hverdict : (c.overrideUsed v).verdictState v = { c with
      state := ((c.overrideUsed v).verdictState v).state
      overrideCount := ((c.overrideUsed v).verdictState v).overrideCount } := by
    unfold Context.overrideUsed Context.verdictState
    cases v.action <;> rfl
  rw [hverdict]
  unfold Context.chainAction Context.close
  repeat' split
  all_goals rfl

theorem openHeartbeat_frame (v : Verdict) (ch : Channel) (c : Context) :
    (openHeartbeat v ch c).1 = { c with
      watchPhase := (openHeartbeat v ch c).1.watchPhase
      gapCount := (openHeartbeat v ch c).1.gapCount
      lastGap := (openHeartbeat v ch c).1.lastGap
      held := (openHeartbeat v ch c).1.held
      new := (openHeartbeat v ch c).1.new } := by
  unfold openHeartbeat
  split
  · exact heartbeat_context ch .opened c
  · rfl

theorem Context.acted_gap (c : Context) (v : Verdict) (done : Option ChainDef) :
    (((c.overrideUsed v).verdictState v).chainAction done).gap = c.gap := by
  rw [Context.acted_frame]
  rfl

/-- A completion leaves the Last Gap, HELD and NEW, or captures an interval (R115 to R117). -/
theorem judge_gap (bank : Bank) (g : Byte) (now : Word32) (w : SwapState) (r : UpRecord) (c : Context) :
    (judge bank g now w r c).context.gap = c.gap ∨ GapCaptured c (judge bank g now w r c).context.gap := by
  unfold judge
  split
  · exact .inl rfl
  · exact heartbeat_gap r.channel .quarantined c
  · obtain ⟨hsame, hcapture⟩ := chainStep_gap bank now r c
    have hacted : (judgeOpen bank g now w r c).context.gap
        = (openHeartbeat (verdictOf bank r).1 r.channel (chainStep bank now r c).context).1.gap :=
      Context.acted_gap _ _ _
    rw [hacted, ← hsame]
    exact (openHeartbeat_gap _ r.channel _).imp_right (hcapture _)

/-- A completion leaves the Chain Binding, the Watch Limit, the Silence Action, Notify, LATE and the counters, which the count
of the record follows (R51, R61). -/
theorem judge_frame (bank : Bank) (g : Byte) (now : Word32) (w : SwapState) (r : UpRecord) (c : Context) :
    (judge bank g now w r c).context = { c with
      state := (judge bank g now w r c).context.state
      overrideMap := (judge bank g now w r c).context.overrideMap
      overrideCount := (judge bank g now w r c).context.overrideCount
      chainProgress := (judge bank g now w r c).context.chainProgress
      chainDeadline := (judge bank g now w r c).context.chainDeadline
      watchPhase := (judge bank g now w r c).context.watchPhase
      gapCount := (judge bank g now w r c).context.gapCount
      lastGap := (judge bank g now w r c).context.lastGap
      held := (judge bank g now w r c).context.held
      new := (judge bank g now w r c).context.new
      lastRuleRef := (judge bank g now w r c).context.lastRuleRef } := by
  unfold judge
  split
  · rfl
  · dsimp only [judgeQuarantined]
    rw [heartbeat_context]
  · dsimp only [judgeOpen]
    rw [Context.acted_frame, openHeartbeat_frame, chainStep_context]

/-- The count of a record, and a swap, leave what is no counter and not the run (R51, R131). -/
theorem Context.counted_frame (z : Context) (placed : Bool) {y : Context}
    (hy : y = z.counted placed ∨ y = (z.counted placed).clearRun) :
    y = { z with
      chainProgress := y.chainProgress
      chainDeadline := y.chainDeadline
      classified := y.classified
      forwarded := y.forwarded
      dropped := y.dropped } := by
  rcases hy with rfl | rfl <;> cases placed <;> rfl

theorem GapCaptured.iff_fields {x y : Context} :
    GapCaptured x y.gap ↔ x.held = false ∧ y.new = true ∧
      ((x.watchPhase = .running ∧ y.lastGap = some x.gapCount ∧ y.held = false)
        ∨ (x.watchPhase = .overdue ∧ y.lastGap = some x.gapCount ∧ y.held = true)
        ∨ (x.watchPhase = .silent ∧ y.lastGap = some 60000 ∧ y.held = true)) := by
  simp only [GapCaptured, Context.gap, Prod.mk.injEq]
  tauto

/-- Settles O59: the two resets apart, each event of a context leaves every field that is not its own. -/
theorem contextFieldsChangeOnlyInTheirEvents : Obligations.ContextFieldsChangeOnlyInTheirEvents := by
  intro c s t ch hreset hrelease h
  have he := exec_contextEvent h hreset hrelease ch
  dsimp only
  generalize t.context ch = y at he ⊢
  cases he with
  | stands => simp +contextual
  | tick hc =>
    have hlate := tickClaim_late ch (s.context ch)
    rw [tickClaim_frame]
    rcases hlate with hlate | ⟨hrun, hlate⟩
    · simp +contextual [hc, hlate]
    · simp +contextual [hc, hlate, hrun]
  | window tick =>
    unfold expireWindow
    split <;> simp +contextual [Context.clearRun]
  | @completed i bank g r hbusy hk placed _ hy =>
    have hcount := Context.counted_frame _ placed hy
    have hjudge := judge_frame (s.bank bank) g s.timebase.count s.swap r (s.context ch)
    have hgap := judge_gap (s.bank bank) g s.timebase.count s.swap r (s.context ch)
    generalize (judge (s.bank bank) g s.timebase.count s.swap r (s.context ch)).context = z at hcount hjudge hgap
    rw [GapCaptured.iff_fields] at hgap
    rw [hjudge] at hcount
    rw [hcount]
    rcases hgap with hsame | ⟨hheld, hnew, hcapture⟩
    · simp only [Context.gap, Prod.mk.injEq] at hsame
      obtain ⟨hgap, hheld, hnew⟩ := hsame
      simp +contextual [hgap, hheld, hnew]
    · rcases hcapture with ⟨hp, hgap, hheld'⟩ | ⟨hp, hgap, hheld'⟩ | ⟨hp, hgap, hheld'⟩ <;>
        simp [hheld, hnew, hp, hgap, hheld']
  | swapped hc => rcases hc with rfl | rfl <;> simp +contextual [Context.clearRun]
  | sent n => simp
  | @modified _ list _ _ =>
    have hlate := modifyChannel_late ch list (s.context ch)
    rw [modifyChannel_frame]
    rcases hlate with hlate | ⟨hrun, hlate⟩
    · simp +contextual [hlate]
    · simp [hlate, hrun]
  | watchRead => simp
  | acknowledged => simp [Context.acknowledge]
  | countersCleared => simp [Context.clearCounters]
  | restarted => simp [Context.restart, Context.powerOn]

end Sys2Proof.Machine
end

section
/-! A completion on a CLOSED, a QUARANTINED and an OPEN channel, whole (R61 to R69, R71, R74, R101). -/

-- One proof after another: side by side, each waiting thread takes a stack of its own.
set_option Elab.async false

namespace Sys2Proof.Machine

/-! ## A completion by its disposal (R25, R61, R101) -/

section

variable {s : State} {i : SlotId} {rest : List SlotId} {bank : BankId} {g : Byte} {r : UpRecord} {j : Judged}

/-- The state after a record's slot is freed and its channel counts it, before any notice. -/
def State.freed (s : State) (i : SlotId) (rest : List SlotId) (ch : Channel) (c : Context) : State :=
  { s with
    classifier := .idle
    classifyFifo := rest
    slots := s.slots.set i .free
    contexts := s.contexts.set ch c }

/-- The state after a record's slot is placed in a queue and its channel counts it, before any notice. -/
def State.placed (s : State) (i : SlotId) (rest : List SlotId) (r : UpRecord) (q : QueueId) (up : UpContents) (c : Context) :
    State :=
  { s with
    classifier := .idle
    classifyFifo := rest
    slots := s.slots.set i (.queued r q up)
    queues := s.queues.set q ⟨s.queues[q].slots ++ [i], s.queues[q].limit⟩
    contexts := s.contexts.set r.channel c }

theorem State.raiseAll_append (s : State) (ns ms : List Notice) : s.raiseAll (ns ++ ms) = (s.raiseAll ns).raiseAll ms :=
  List.foldl_append

theorem ForwardQueue.accepts_iff (q : ForwardQueue) : q.accepts = true ↔ q.slots.length < q.limit :=
  decide_eq_true_iff

theorem completeRecord_of_drop (hfifo : s.classifyFifo = i :: rest)
    (hj : judge (s.bank bank) g s.timebase.count s.swap r (s.context r.channel) = j) (hd : j.disposal = .drop) :
    completeRecord i bank g r s =
      ((s.freed i rest r.channel (j.context.counted false)).raiseAll j.notices).swapAtCompletion s.swap j.marker r.channel := by
  simp [completeRecord, hj, hd, State.dispose, State.places, State.dropNotices, State.freed, State.setContext, hfifo]

theorem completeRecord_of_mapDrop (hfifo : s.classifyFifo = i :: rest)
    (hj : judge (s.bank bank) g s.timebase.count s.swap r (s.context r.channel) = j) (hd : j.disposal = .mapDrop) :
    completeRecord i bank g r s =
      (({ s.freed i rest r.channel (j.context.counted false) with
          counters := { s.counters with mapDrop := s.counters.mapDrop + 1#32 } } : State).raiseAll
        j.notices).swapAtCompletion s.swap j.marker r.channel := by
  simp [completeRecord, hj, hd, State.dispose, State.places, State.dropNotices, State.freed, State.setContext, hfifo, count]

/-- An offered record is placed at the tail of its queue, or dropped with QUEUE_FULL and QUEUE_DROP (R101). -/
theorem completeRecord_of_offer (hfifo : s.classifyFifo = i :: rest)
    (hj : judge (s.bank bank) g s.timebase.count s.swap r (s.context r.channel) = j) {q : QueueId} {up : UpContents}
    (hd : j.disposal = .offer q up) :
    completeRecord i bank g r s =
      (if s.queues[q].slots.length < s.queues[q].limit then
        (s.placed i rest r q up (j.context.counted true)).raiseAll j.notices
      else
        (({ s.freed i rest r.channel (j.context.counted false) with
            counters := { s.counters with
              queueFull := s.counters.queueFull.set q (s.counters.queueFull[q] + 1#32) } } : State).raiseAll
          j.notices).raise (queueDropNotice q)).swapAtCompletion s.swap j.marker r.channel := by
  have herase : s.classifyFifo.erase i = rest := by rw [hfifo, List.erase_cons_head]
  by_cases ha : s.queues[q].accepts = true
  · have hdispose : ({ s with classifier := .idle } : State).dispose i r (.offer q up) = _ := if_pos ha
    have hnotices : s.dropNotices (.offer q up) = [] := if_pos ha
    have hplaces : s.places (.offer q up) = true := ha
    rw [if_pos ((ForwardQueue.accepts_iff _).1 ha), completeRecord]
    simp only [hj, hd, hdispose, hnotices, hplaces, List.append_nil, herase]
    rfl
  · have hdispose : ({ s with classifier := .idle } : State).dispose i r (.offer q up) = _ := if_neg ha
    have hnotices : s.dropNotices (.offer q up) = [queueDropNotice q] := if_neg ha
    have hplaces : s.places (.offer q up) = false := Bool.eq_false_iff.2 ha
    rw [if_neg fun h => ha ((ForwardQueue.accepts_iff _).2 h), completeRecord]
    simp only [hj, hd, hdispose, hnotices, hplaces, State.raiseAll_append, herase]
    rfl

end

/-- A count adds to the counters that stood before the completion. -/
theorem Context.counted_eq {z c : Context} (h : z.tally = c.tally) (placed : Bool) :
    z.counted placed =
      if placed then { z with classified := c.classified + 1#32, forwarded := c.forwarded + 1#32 }
      else { z with classified := c.classified + 1#32, dropped := c.dropped + 1#32 } := by
  obtain ⟨hc, hf, hd⟩ := (Context.tally_eq_iff ..).1 h
  rw [← hc, ← hf, ← hd]
  cases placed <;> rfl

/-- A record that is no marker is followed by the swap that NEXT has armed alone (R74). -/
theorem State.swapAtCompletion_false (s : State) (w : SwapState) (ch : Channel) :
    s.swapAtCompletion w false ch = if w = .armedNext then s.performSwap .next else s := by
  cases w <;> simp [State.swapAtCompletion]

/-- Settles O27: the drop on a CLOSED channel, and the offer to Queue 3 after the heartbeat on a QUARANTINED one. -/
theorem closedAndQuarantinedCompletions : Obligations.ClosedAndQuarantinedCompletions := by
  rintro s i rest bank g r ⟨hheld, hbusy, hfifo, hslot⟩
  have hexec := exec_classifyComplete_busy hheld hbusy hslot
  refine ⟨fun hstate => ?_, fun hstate => ?_⟩
  · have hj : judge (s.bank bank) g s.timebase.count s.swap r (s.context r.channel) = judgeClosed (s.context r.channel) := by
      simp only [judge, hstate]
    rw [hexec, completeRecord_of_drop hfifo hj rfl, judgeClosed, State.swapAtCompletion_false]
    rfl
  · have hj : judge (s.bank bank) g s.timebase.count s.swap r (s.context r.channel)
        = judgeQuarantined g r (s.context r.channel) := by
      simp only [judge, hstate]
    have htally : (judgeQuarantined g r (s.context r.channel)).context.tally = (s.context r.channel).tally :=
      heartbeat_tally r.channel .quarantined _
    rw [hexec, completeRecord_of_offer hfifo hj rfl, Context.counted_eq htally, Context.counted_eq htally, judgeQuarantined,
      State.swapAtCompletion_false]
    rfl

/-! ## A completion on an OPEN channel (R65 to R69) -/

/-- The Action of a verdict in the context: FORWARD uses up one of the Override, QUARANTINE sets the State (R68, R96). -/
theorem Context.verdict_eq {c : Context} {n : Nat} (h : c.overrideCount = n) (v : Verdict) :
    (c.overrideUsed v).verdictState v = match v.action with
      | .forward => { c with overrideCount := n - 1 }
      | .drop => c
      | .quarantine => { c with state := .quarantined } := by
  subst h
  unfold Context.overrideUsed Context.verdictState
  cases v.action <;> rfl

/-- The completion action of a chain on a channel that is not CLOSED (R84). -/
theorem Context.chainAction_eq {c : Context} (h : c.state ≠ .closed) (done : Option ChainDef) :
    c.chainAction done = match done with
      | none => c
      | some d =>
        match d.action with
        | .noticeOnly => c
        | .quarantine => { c with state := .quarantined }
        | .close => c.nowClosed
        | .override => { c with overrideMap := d.actionMap, overrideCount := d.actionCount } := by
  cases done with
  | none => rfl
  | some d =>
    unfold Context.chainAction
    cases ha : d.action <;> simp only [ha]
    · rfl
    · exact Context.close_of_not_closed h

/-- The swap after a completion on an OPEN channel: the marker swap waits for a record that matches its entry (R70, R74). -/
theorem State.swapAtCompletion_marker (s : State) (w : SwapState) (bank : Bank) (r : UpRecord) :
    s.swapAtCompletion w (markerTest bank w r) r.channel = match w with
      | .idle => s
      | .armedNext => s.performSwap .next
      | .armedMarker m => if bank.rules[m].pattern.matches r = true then s.performSwap (.marker r.channel m) else s := by
  cases w <;> rfl

/-- The Override stands until the Action uses it: neither the chain step nor the heartbeat writes it. -/
theorem openHeartbeat_overrideCount (b : Bank) (now : Word32) (r : UpRecord) (c : Context) (v : Verdict) :
    (openHeartbeat v r.channel (chainStep b now r c).context).1.overrideCount = c.overrideCount := by
  rw [openHeartbeat_frame]
  dsimp only
  rw [chainStep_context]

/-- Settles O28: the outcome by the Action, and then the swap. -/
theorem openCompletion : Obligations.OpenCompletion := by
  rintro s i rest bank g r ⟨hheld, hbusy, hfifo, hslot⟩ hstate
  intro c b v ref step beat used acted judged dropped raised offered map outKind outcome
  have ho : c.state = .opened := hstate
  have hj : judge b g s.timebase.count s.swap r c = judgeOpen b g s.timebase.count s.swap r c := by
    simp only [judge, ho]
  have hcount : beat.1.overrideCount = c.overrideCount :=
    openHeartbeat_overrideCount b s.timebase.count r c v
  have hused : (beat.1.overrideUsed v).verdictState v = used := Context.verdict_eq hcount v
  have hopen : used.state ≠ .closed := by
    rw [← hused]
    exact (openChannel_not_closed b s.timebase.count r v (by simp [ho])).2
  have hcontext : (judgeOpen b g s.timebase.count s.swap r c).context = { acted with lastRuleRef := some ref } := by
    have hacted : ((beat.1.overrideUsed v).verdictState v).chainAction step.completed = acted := by
      rw [hused]
      exact Context.chainAction_eq hopen step.completed
    exact congrArg (fun x : Context => { x with lastRuleRef := some ref }) hacted
  have hcounted (placed : Bool) : (judgeOpen b g s.timebase.count s.swap r c).context.counted placed =
      if placed then { judged with forwarded := c.forwarded + 1#32 } else { judged with dropped := c.dropped + 1#32 } := by
    rw [Context.counted_eq ((congrArg (fun j => j.context.tally) hj).symm.trans (judge_tally ..)), hcontext]
  have hoffer (q : QueueId) (up : UpContents) (hd : (judgeOpen b g s.timebase.count s.swap r c).disposal = .offer q up) :
      completeRecord i bank g r s = (offered q up).swapAtCompletion s.swap (markerTest b s.swap r) r.channel := by
    rw [completeRecord_of_offer hfifo hj hd, hcounted, hcounted]
    rfl
  rw [exec_classifyComplete_busy hheld hbusy hslot]
  refine congrArg _ (Eq.trans ?_ (State.swapAtCompletion_marker outcome s.swap b r))
  have hdisposal : (judgeOpen b g s.timebase.count s.swap r c).disposal = applyAction b g v ref r c := rfl
  unfold applyAction at hdisposal
  cases hv : v.action with
  | drop =>
    rw [hv] at hdisposal
    rw [completeRecord_of_drop hfifo hj hdisposal, hcounted]
    simp only [outcome, hv]
    rfl
  | quarantine =>
    rw [hv] at hdisposal
    rw [hoffer _ _ hdisposal]
    simp only [outcome, hv]
    rfl
  | forward =>
    rw [hv] at hdisposal
    have hkind : translateKind b r.kind (c.governingMap v) = outKind := by
      unfold translateKind
      rfl
    simp only [hkind] at hdisposal
    cases hk : outKind with
    | drop =>
      rw [hk] at hdisposal
      rw [completeRecord_of_mapDrop hfifo hj hdisposal, hcounted]
      simp only [outcome, hv, hk]
      rfl
    | out k =>
      rw [hk] at hdisposal
      rw [hoffer _ _ hdisposal]
      simp only [outcome, hv, hk]

end Sys2Proof.Machine
end

section
/-! A window expiry (R88), and the two readers of a channel with the bytes that they return (R50, R119, 11.2). -/

-- One proof after another: side by side, each waiting thread takes a stack of its own.
set_option Elab.async false

namespace Sys2Proof.Machine

/-! ## A window expiry (R87, R88) -/

/-- The Deadline `d` is reached at `now`. -/
theorem deadlineReached_some (now d : Word32) : deadlineReached now (some d) = true ↔ reachedAt now d :=
  decide_eq_true_iff

theorem expireWindow_of_reached {tick d : Word32} {c : Context} (hd : c.chainDeadline = some d) (h : reachedAt tick d) :
    expireWindow tick c = c.runCleared := by
  rw [expireWindow, hd, if_pos ((deadlineReached_some tick d).2 h)]
  rfl

theorem expireWindow_of_none {tick : Word32} {c : Context} (hd : c.chainDeadline = none) : expireWindow tick c = c := by
  rw [expireWindow, hd]
  rfl

theorem expireWindow_of_not_reached {tick d : Word32} {c : Context} (hd : c.chainDeadline = some d)
    (h : ¬ reachedAt tick d) : expireWindow tick c = c := by
  rw [expireWindow, hd, if_neg fun hr => h ((deadlineReached_some tick d).1 hr)]

/-- The first outstanding expiry of a channel is taken, and the others stand in their order. -/
theorem takeWindowClaim_first {s : State} {ch : Channel} {tick : Word32} {before after : List (Channel × Word32)}
    (hclaims : s.windowClaims = before ++ (ch, tick) :: after) (hfirst : ∀ k ∈ before, k.1 ≠ ch) :
    takeWindowClaim ch s =
      ({ s with windowClaims := before ++ after } : State).setContext ch (expireWindow tick (s.context ch)) := by
  have hfind : firstWindowClaim ch s.windowClaims = some (ch, tick) := by
    have hnone : before.find? (fun k => k.1 == ch) = none := by simpa using hfirst
    rw [firstWindowClaim, hclaims, List.find?_append, hnone]
    simp
  have herase : s.windowClaims.erase (ch, tick) = before ++ after := by
    rw [hclaims, List.erase_append_right _ fun hmem => hfirst _ hmem rfl, List.erase_cons_head]
  simp only [takeWindowClaim, hfind, herase]

/-- A context written as it stands changes nothing. -/
theorem State.setContext_context (s : State) (ch : Channel) : s.setContext ch (s.context ch) = s := by
  simp [State.setContext, State.context]

/-- Settles O21: the Deadline that the expiry finds, reached, NONE or not reached; a CLOSED channel has none. -/
theorem windowExpiryEndsTheRun : Obligations.WindowExpiryEndsTheRun := by
  intro s ch tick before after h hclaims hfirst c t
  have hexec : exec (.windowExpiry ch) s = .next (t.setContext ch (expireWindow tick c)) :=
    (live_of_released _ h).trans (congrArg _ (takeWindowClaim_first hclaims hfirst))
  have hstands (he : expireWindow tick c = c) : exec (.windowExpiry ch) s = .next t := by
    rw [hexec, he]
    exact congrArg _ (State.setContext_context t ch)
  have hnone (hd : c.chainDeadline = none) : exec (.windowExpiry ch) s = .next t := hstands (expireWindow_of_none hd)
  refine ⟨fun d hd hr => ?_, hnone, fun d hd hr => hstands (expireWindow_of_not_reached hd hr), fun hruns hclosed => ?_⟩
  · rw [hexec, expireWindow_of_reached hd hr]
    rfl
  · obtain ⟨hdeadline, hprogress, -⟩ := hruns.2 ch
    exact hnone (hdeadline (hprogress hclosed))

/-! ## The bytes of a context (11.2) -/

theorem bytes16_ofNat (n : Nat) : bytes16 (BitVec.ofNat 16 n) = twoBytes n := by
  simp only [bytes16, twoBytes, List.cons.injEq, and_true]
  refine ⟨BitVec.eq_of_toNat_eq ?_, BitVec.eq_of_toNat_eq ?_⟩
  · simp [BitVec.extractLsb'_toNat, Nat.shiftRight_eq_div_pow]
    omega
  · simp [BitVec.extractLsb'_toNat]

theorem lastGapBytes_eq (v : Option Nat) : lastGapBytes v = lastGapTwo v := by
  cases v with
  | none => rfl
  | some n => exact bytes16_ofNat n

theorem ChannelState.code_eq (st : ChannelState) : st.code = stateByte st := by
  cases st <;> rfl

theorem chainBindingCode_eq (v : Option ChainId) : chainBindingCode v = bindingByte v := by
  cases v <;> rfl

theorem SilenceAction.code_eq (a : SilenceAction) : a.code = silenceByte a := by
  cases a <;> rfl

theorem flagCode_eq (b : Bool) : flagCode b = bitByte b := by
  cases b <;> rfl

theorem MapSelect.code_eq (m : MapSelect) : m.code = mapByte m := by
  cases m <;> rfl

theorem WatchPhase.code_eq (p : WatchPhase) : p.code = phaseByte p := by
  cases p <;> rfl

/-! ## A request executed (R154, R157) -/

theorem State.Executes.engine_idle {s : State} {r : Request} {rest : List Request} {command : Byte}
    (h : s.Executes r rest command) : s.engine = .idle := by
  obtain ⟨⟨-, he, -⟩, -⟩ := h
  exact he

theorem State.Executes.command_eq {s : State} {r : Request} {rest : List Request} {command : Byte}
    (h : s.Executes r rest command) : r.command = command := by
  obtain ⟨-, -, hcommand⟩ := h
  exact hcommand

/-- The event of a request that is no duplicate, by the row of its Command. -/
theorem exec_of_executes {s : State} {r : Request} {rest : List Request} {command : Byte} {row : Instr}
    {act : Request → State → State} (h : s.Executes r rest command) (hrow : rowOf r = row) (hact : rowAct row = some act) :
    exec row s = .next (act r { s with requestFifo := rest }) := by
  obtain ⟨⟨hheld, he, hr, hf⟩, hfresh, -⟩ := h
  rw [exec_eq_takeAs hact]
  exact live_takeAs act hheld he hr hf ((State.rowFor_fresh hfresh).trans hrow)

/-- A response by an engine that was IDLE leaves the engine as it was. -/
theorem State.respond_eq_answered {s : State} (he : s.engine = .idle) (r : Request) (rest : List Request) (status : Status)
    (bytes : List Byte) :
    ({ s with requestFifo := rest } : State).respond r status bytes = s.answered rest (r.reply status bytes) := by
  simp only [State.respond, State.answered, ← he]
  rfl

theorem validChannel_badRange {b : Byte} (h : 127 < b.toNat) : validChannel [b] = .error .badRange := by
  have : indexOf Config.channels b = none := indexOf_eq_none h
  simp [validChannel, this]

theorem validChannel_ok {b : Byte} (h : b.toNat < 128) : validChannel [b] = .ok ⟨b.toNat, h⟩ := by
  have : indexOf Config.channels b = some ⟨b.toNat, h⟩ := indexOf_eq_some h
  simp [validChannel, this]

theorem byteOf_toNat (b : Byte) : byteOf b.toNat = b := by simp [byteOf]

/-- The results of READ CONTEXT in the codes of 11.2 (R50). -/
theorem contextBytes_eq (ch : Channel) (c : Context) :
    contextBytes ch c =
      [byteOf ch.val, stateByte c.state, bindingByte c.chainBinding] ++ twoBytes (c.watchLimit.getD 0)
        ++ [silenceByte c.silenceAction, bitByte c.notify, mapByte c.overrideMap, BitVec.ofNat 8 c.overrideCount,
          BitVec.ofNat 8 c.chainProgress]
        ++ deadlineBytes c.chainDeadline ++ [phaseByte c.watchPhase] ++ twoBytes c.gapCount ++ lastGapTwo c.lastGap
        ++ [bitByte c.late, bitByte c.held, bitByte c.new, lastRuleRefCode c.lastRuleRef] := by
  simp only [contextBytes, watchLimitBytes, millisBytes, bytes16_ofNat, lastGapBytes_eq, ChannelState.code_eq,
    chainBindingCode_eq, SilenceAction.code_eq, flagCode_eq, MapSelect.code_eq, WatchPhase.code_eq, byteOf]

/-- The results of READ WATCH in the codes of 11.2 (R119). -/
theorem watchBytes_eq (ch : Channel) (c : Context) :
    watchBytes ch c =
      [byteOf ch.val] ++ twoBytes (c.watchLimit.getD 0) ++ [silenceByte c.silenceAction, phaseByte c.watchPhase]
        ++ twoBytes c.gapCount ++ lastGapTwo c.lastGap ++ [bitByte c.late, bitByte c.held, bitByte c.new] := by
  simp only [watchBytes, watchLimitBytes, millisBytes, bytes16_ofNat, lastGapBytes_eq, SilenceAction.code_eq, flagCode_eq,
    WatchPhase.code_eq]

theorem deadlineBytes_eq (d : Option Word32) :
    deadlineBytes d = match d with
      | some d => 0x01#8 :: fourBytes d
      | none => [0x00#8, 0x00#8, 0x00#8, 0x00#8, 0x00#8] := by
  cases d <;> rfl

theorem lastRuleRefCode_eq (ref : Option RuleRef) :
    lastRuleRefCode ref = match ref with
      | some ref => refByte ref
      | none => 0xFD#8 := by
  cases ref with
  | none => rfl
  | some ref => exact ref.code_eq

/-- Settles O36: the refusal of a channel above 127, and the bytes of the two readers by the tables of 11.2. -/
theorem readContextAndReadWatch : Obligations.ReadContextAndReadWatch := by
  intro s r rest b hparams
  have hcontext (h : s.Executes r rest 0x03#8) :=
    exec_of_executes h (by rw [rowOf, h.command_eq]; rfl) (show rowAct .readContext = some answerReadContext from rfl)
  have hwatch (h : s.Executes r rest 0x05#8) :=
    exec_of_executes h (by rw [rowOf, h.command_eq]; rfl) (show rowAct .readWatch = some answerReadWatch from rfl)
  refine ⟨fun hb => ⟨fun h => ?_, fun h => ?_⟩, fun hb => ⟨fun h => ?_, fun h => ?_⟩⟩
  · rw [hcontext h, answerReadContext, hparams, validChannel_badRange hb, answerChecked_error,
      State.respond_eq_answered h.engine_idle]
  · rw [hwatch h, answerReadWatch, hparams, validChannel_badRange hb, answerChecked_error,
      State.respond_eq_answered h.engine_idle]
  · rw [hcontext h, answerReadContext, hparams, validChannel_ok hb, answerChecked_ok,
      State.respond_eq_answered h.engine_idle, contextBytes_eq, byteOf_toNat, deadlineBytes_eq, lastRuleRefCode_eq]
    rfl
  · rw [hwatch h, answerReadWatch, hparams, validChannel_ok hb, answerChecked_ok, watchBytes_eq, byteOf_toNat]
    exact congrArg _ (State.respond_eq_answered (s := s.setContext _ _) h.engine_idle r rest _ _)

end Sys2Proof.Machine
end

section
/-! MODIFY CONTEXT (R47 to R49): its validation as a whole, and the event of one channel. -/

-- One proof after another: side by side, each waiting thread takes a stack of its own.
set_option Elab.async false

namespace Sys2Proof.Machine

/-! ## Assignments read back (11.4, R172) -/

theorem parseMap_mapByte (m : MapSelect) : parseMap (mapByte m) = some m := by
  cases m with
  | identity => rfl
  | map n =>
    revert n
    decide

theorem parseChainBinding_bindingByte (v : Option ChainId) : parseChainBinding (bindingByte v) = some v := by
  cases v with
  | none => rfl
  | some n =>
    revert n
    decide

theorem pairValue_twoBytes {n : Nat} (h : n < 65536) : pairValue (BitVec.ofNat 8 (n / 256)) (BitVec.ofNat 8 n) = n := by
  simp only [pairValue, word16, BitVec.toNat_append, BitVec.toNat_ofNat]
  rw [← Nat.shiftLeft_add_eq_or_of_lt (by omega), Nat.shiftLeft_eq]
  omega

theorem parseWatchLimit_getD {v : Option Nat} (h : watchLimitWf v = true) : parseWatchLimit (v.getD 0) = some v := by
  cases v with
  | none => rfl
  | some n =>
    rw [watchLimitWf, Bool.and_eq_true, decide_eq_true_iff, decide_eq_true_iff] at h
    rw [Option.getD_some, parseWatchLimit, if_neg (by omega), if_pos h.2]

/-- An assignment in range is read from its own bytes (R172). -/
theorem parseAssignment_bytes {a : Assignment} (h : a.wf = true) : parseAssignment a.bytes = some a := by
  cases a with
  | state v => cases v <;> rfl
  | chainBinding v =>
    simp [Assignment.bytes, parseAssignment, parseChainBinding_bindingByte]
  | watchLimit v =>
    have hvalue := pairValue_twoBytes (Nat.lt_trans (watchLimitWf_lt h) (by decide))
    simp [Assignment.bytes, twoBytes, parseAssignment, hvalue, parseWatchLimit_getD h]
  | silenceAction v => cases v <;> rfl
  | notify v => cases v <;> rfl
  | override m n =>
    have hn : n ≤ 15 := of_decide_eq_true h
    have hbyte : (BitVec.ofNat 8 n).toNat = n := by rw [BitVec.toNat_ofNat]; omega
    simp [Assignment.bytes, parseAssignment, parseMap_mapByte, hbyte, hn]

theorem Assignment.bytes_length (a : Assignment) : a.bytes.length = 3 := by
  cases a <;> rfl

/-! ## The validation (R47, R157) -/

/-- The field codes of whole assignments differ as their first bytes do. -/
theorem map_getD_nodup_iff {items : List (List Byte)} (h : ∀ x ∈ items, x.length = 3) :
    (items.map fun x => x.getD 0 0#8).Nodup ↔ (items.map fun x => x.head?).Nodup := by
  have hhead : items.map (fun x => x.head?) = (items.map fun x => x.getD 0 0#8).map some := by
    rw [List.map_map]
    refine List.map_congr_left fun x hx => ?_
    cases x with
    | nil => cases h _ hx
    | cons b bs => rfl
  rw [hhead, List.nodup_map_iff (Option.some_injective _)]

theorem parseAssignments_bytes {list : List Assignment} (hwf : ∀ a ∈ list, a.wf = true)
    (hnodup : (list.map fun a => a.bytes.head?).Nodup) : parseAssignments (list.map Assignment.bytes) = some list := by
  have hlen : ∀ x ∈ list.map Assignment.bytes, x.length = 3 := by
    simp [Assignment.bytes_length]
  rw [parseAssignments, if_pos ((map_getD_nodup_iff hlen).2 (by rwa [List.map_map]))]
  exact parseAll_map list fun a ha => parseAssignment_bytes (hwf a ha)

/-- A repeated field and a value that is none leave the list unread (R47). -/
theorem parseAssignments_eq_none {items : List (List Byte)} (hlen : ∀ x ∈ items, x.length = 3)
    (h : ¬ (items.map fun x => x.head?).Nodup ∨ ∃ x ∈ items, parseAssignment x = none) : parseAssignments items = none := by
  unfold parseAssignments
  split
  · next hnodup =>
    rcases h with h | h
    · exact absurd ((map_getD_nodup_iff hlen).1 hnodup) h
    · exact parseAll_eq_none items h
  · rfl

theorem parseRange_ok {f l : Byte} (hf : f.toNat < 128) (hl : l.toNat < 128) (hle : f.toNat ≤ l.toNat) :
    parseRange f l = some (⟨f.toNat, hf⟩, ⟨l.toNat, hl⟩) := by
  have hf' : indexOf Config.channels f = some ⟨f.toNat, hf⟩ := indexOf_eq_some hf
  have hl' : indexOf Config.channels l = some ⟨l.toNat, hl⟩ := indexOf_eq_some hl
  simp only [parseRange, hf', hl']
  exact if_pos hle

theorem parseRange_eq_none {f l : Byte} (h : 127 < f.toNat ∨ 127 < l.toNat ∨ l.toNat < f.toNat) :
    parseRange f l = none := by
  unfold parseRange
  split
  · next first last hfirst hlast =>
    refine if_neg fun hle => ?_
    unfold indexOf at hfirst hlast
    split at hfirst
    · next hf =>
      split at hlast
      · next hl =>
        cases hfirst
        cases hlast
        have hf : f.toNat < 128 := hf
        have hl : l.toNat < 128 := hl
        have hle : f.toNat ≤ l.toNat := hle
        omega
      · cases hlast
    · cases hfirst
  · rfl

section

variable {f l : Byte} {items : List (List Byte)} (h1 : 1 ≤ items.length) (h6 : items.length ≤ 6)
  (h3 : ∀ x ∈ items, x.length = 3)

include h1 h6 h3

/-- One to six whole assignments have an accepted Length, and are the items that are read (R157, R172). -/
theorem modifyContext_items :
    listLengthOk 2 3 6 (f :: l :: items.flatten).length = true
      ∧ chunks 3 (((f :: l :: items.flatten).length - 2) / 3) ((f :: l :: items.flatten).drop 2) = items := by
  have hflat : items.flatten.length = 3 * items.length := by
    have hsizes : items.map List.length = items.map fun _ => 3 := List.map_congr_left h3
    rw [List.length_flatten, hsizes, List.map_const', List.sum_replicate, smul_eq_mul, Nat.mul_comm]
  have hlen : (f :: l :: items.flatten).length = 2 + 3 * items.length := by
    rw [List.length_cons, List.length_cons, hflat]
    omega
  rw [hlen, Nat.add_sub_cancel_left, Nat.mul_div_cancel_left _ (by decide)]
  exact ⟨listLengthOk_items (by decide) h1 h6, chunks_flatten 3 items h3⟩

theorem validModifyContext_ok {range : Channel × Channel} {list : List Assignment} (hrange : parseRange f l = some range)
    (hlist : parseAssignments items = some list) : validModifyContext (f :: l :: items.flatten) = .ok (range, list) := by
  obtain ⟨hok, hitems⟩ := modifyContext_items (f := f) (l := l) h1 h6 h3
  refine (checked_ok_iff ..).2 ⟨hok, ?_⟩
  rw [hitems, hlist]
  simp [hrange]

theorem validModifyContext_badRange (h : parseRange f l = none ∨ parseAssignments items = none) :
    validModifyContext (f :: l :: items.flatten) = .error .badRange := by
  obtain ⟨hok, hitems⟩ := modifyContext_items (f := f) (l := l) h1 h6 h3
  rw [validModifyContext, hok, hitems]
  rcases h with h | h
  · simp [h]
  · rw [h]
    cases parseRange f l <;> simp

end

theorem channelRange_eq (first last : Channel) : channelRange first last = channelsFrom first last := by
  simp only [channelRange, channelsFrom, Bool.decide_and]

/-- Settles O37: the assignments read back from their bytes, and each fault of the range or of an item. -/
theorem modifyContextIsValidatedWhole : Obligations.ModifyContextIsValidatedWhole := by
  intro s r rest f l h
  have hexec := exec_of_executes h (by rw [rowOf, h.command_eq]; rfl) (show rowAct .modifyContext = some beginModify from rfl)
  refine ⟨fun list hf hl hle h1 h6 hwf hnodup hparams => ?_, fun items h1 h6 h3 hparams hbad => ?_⟩
  · rw [List.flatMap_def] at hparams
    have hvalid := validModifyContext_ok (items := list.map Assignment.bytes) (by simpa using h1) (by simpa using h6)
      (by simp [Assignment.bytes_length]) (parseRange_ok hf hl hle) (parseAssignments_bytes hwf hnodup)
    rw [hexec, beginModify, hparams, hvalid, answerChecked_ok, channelRange_eq]
  · have hnone : parseRange f l = none ∨ parseAssignments items = none := by
      rcases hbad with hb | hb | hb | hb
      · exact .inl (parseRange_eq_none (.inl hb))
      · exact .inl (parseRange_eq_none (.inr (.inl hb)))
      · exact .inl (parseRange_eq_none (.inr (.inr hb)))
      · exact .inr (parseAssignments_eq_none h3 hb)
    rw [hexec, beginModify, hparams, validModifyContext_badRange h1 h6 h3 hnone, answerChecked_error,
      State.respond_eq_answered h.engine_idle]

/-! ## The event of one channel (R49) -/

theorem assign_eq_written : assign = Context.written := by
  funext c a
  cases a <;> rfl

theorem settleChain_eq (list : List Assignment) (c : Context) :
    settleChain list c = if ∃ v, .chainBinding v ∈ list then c.runCleared else c :=
  if_congr (any_isChainBinding list) rfl rfl

theorem settleClosing_eq (before : ChannelState) (c : Context) :
    settleClosing before c = if c.state = .closed ∧ before ≠ .closed then c.nowClosed else c := by
  unfold settleClosing
  split
  · next h => simp [Context.closingEffects, Context.watchOff, Context.clearRun, Context.nowClosed, h.1]
  · rfl

section

variable {ch : Channel} {list : List Assignment} {c : Context}

theorem settleWatch_off (h : c.state = .closed ∨ c.watchLimit = none) :
    settleWatch ch list c = ({ c with watchPhase := .off, gapCount := 0 }, []) := if_pos h

theorem settleWatch_start (h : ¬ (c.state = .closed ∨ c.watchLimit = none)) (hp : c.watchPhase = .off) :
    settleWatch ch list c = ({ c with watchPhase := .idle, gapCount := 0 }, []) := (if_neg h).trans (if_pos hp)

/-- A Watch Limit assigned below the Gap Count of a RUNNING channel (R49). -/
def Context.limitLowered (c : Context) (list : List Assignment) : Prop :=
  (∃ v, .watchLimit v ∈ list) ∧ c.watchPhase = .running ∧ ∃ limit, c.watchLimit = some limit ∧ limit < c.gapCount

theorem limitLowered_iff : c.limitLowered list ↔ list.any Assignment.isWatchLimit = true ∧ c.belowGap = true := by
  rw [any_isWatchLimit, Context.belowGap_iff]
  rfl

theorem settleWatch_stays (h : ¬ (c.state = .closed ∨ c.watchLimit = none)) (hp : c.watchPhase ≠ .off)
    (hexpires : ¬ c.limitLowered list) : settleWatch ch list c = (c, []) := by
  rw [limitLowered_iff] at hexpires
  exact (if_neg h).trans ((if_neg hp).trans (if_neg hexpires))

theorem settleWatch_expires (h : ¬ (c.state = .closed ∨ c.watchLimit = none)) (hexpires : c.limitLowered list) :
    settleWatch ch list c = limitExpiry ch (c.watchLimit.getD 0) c := by
  have hp : c.watchPhase ≠ .off := by simp [hexpires.2.1]
  rw [limitLowered_iff] at hexpires
  exact (if_neg h).trans ((if_neg hp).trans (if_pos hexpires))

end

/-- The event of the next channel: its context, the notices, and the response after the last channel (R48, R49). -/
theorem exec_modifyContextChannel {s : State} {r : Request} {list : List Assignment} {ch : Channel} {left : List Channel}
    (h : s.resetHeld = false) (he : s.engine = .modifying r list (ch :: left)) :
    exec .modifyContextChannel s = .next (
      let t := (s.setContext ch (modifyChannel ch list (s.context ch)).1).raiseAll (modifyChannel ch list (s.context ch)).2
      if left = [] then t.respond r .ok [] else { t with engine := .modifying r list left }) := by
  refine (live_of_released _ h).trans (congrArg _ ?_)
  simp only [modifyNext, he, List.isEmpty_iff]

/-- The LATE notice of a limit expiry: raised when the flag was clear and Notify is ON (R46, R111). -/
theorem State.raiseAll_late (s : State) (ch : Channel) (limit : Nat) (c : Context) :
    s.raiseAll (limitExpiry ch limit c).2 =
      if c.late = false ∧ c.notify = true then s.raise ⟨.late, BitVec.ofNat 8 ch.val, BitVec.ofNat 32 limit⟩ else s := by
  have hnotices : (limitExpiry ch limit c).2 = if c.late = false ∧ c.notify = true then [lateNotice ch limit] else [] := by
    unfold limitExpiry Context.gated
    cases c.late <;> cases c.notify <;> rfl
  rw [hnotices]
  split <;> rfl

/-- Settles O38: the settled context by R49, and the watch that is off, starts, stays on or expires. -/
theorem modifyContextSettlesTheChannel : Obligations.ModifyContextSettlesTheChannel := by
  intro s r list ch left h he old written chained closed expires write done
  have hmodify : modifyChannel ch list old = settleWatch ch list closed := by
    rw [modifyChannel, settleClosing_eq, settleChain_eq, assign_eq_written]
  have hexec {p : Context × List Notice} (hp : settleWatch ch list closed = p) :
      exec .modifyContextChannel s = .next (done ((write p.1).raiseAll p.2)) := by
    rw [exec_modifyContextChannel h he, show modifyChannel ch list (s.context ch) = p from hmodify.trans hp]
    dsimp only [done]
    rw [← show ((write p.1).raiseAll p.2).responses = s.responses by simp [write]]
    rfl
  refine ⟨fun hoff => hexec (settleWatch_off hoff),
    fun hopen hlimit => ⟨fun hp => ?_, fun hp hstays => ?_, fun hexpires => ?_⟩⟩
  all_goals have hon : ¬ (closed.state = .closed ∨ closed.watchLimit = none) := fun hoff => hoff.elim hopen hlimit
  · exact hexec (settleWatch_start hon hp)
  · exact hexec (settleWatch_stays hon hp hstays)
  · rw [hexec (settleWatch_expires hon hexpires), State.raiseAll_late]
    rfl

end Sys2Proof.Machine
end

section
/-! The Pattern and the search (R52 to R58), and the swap with its place in a completion (R70, R74, R131). -/

-- One proof after another: side by side, each waiting thread takes a stack of its own.
set_option Elab.async false

namespace Sys2Proof.Machine

/-! ## A Pattern (R53, R54) -/

/-- A present key byte matches its pair when no bit of the Care Mask tells it from the Compare Value (R53). -/
theorem KeyPair.matches_some (p : KeyPair) (k : Byte) :
    p.matches (some k) = true ↔ ∀ n, n < 8 → p.care.getLsbD n = true → k.getLsbD n = p.compare.getLsbD n := by
  have hbits : p.matches (some k) = true ↔
      ∀ n, n < 8 → (k &&& p.care).getLsbD n = (p.compare &&& p.care).getLsbD n :=
    beq_iff_eq.trans ⟨fun h n _ => congrArg (·.getLsbD n) h, fun h => BitVec.eq_of_getLsbD_eq h⟩
  rw [hbits]
  refine forall₂_congr fun n _ => ?_
  rw [BitVec.getLsbD_and, BitVec.getLsbD_and]
  cases p.care.getLsbD n <;> simp

/-- An ABSENT key byte matches under a Care Mask of 00h alone (R53). -/
theorem KeyPair.matches_none (p : KeyPair) : p.matches none = true ↔ p.care = 0x00#8 := beq_iff_eq

theorem KeyPair.matches_iff (p : KeyPair) (key : Option Byte) :
    p.matches key = true ↔
      (∀ k, key = some k → ∀ n, n < 8 → p.care.getLsbD n = true → k.getLsbD n = p.compare.getLsbD n)
      ∧ (key = none → p.care = 0x00#8) := by
  cases key with
  | none => simp [matches_none]
  | some k => simp [matches_some]

theorem Pattern.matches_iff (p : Pattern) (r : UpRecord) :
    p.matches r = true ↔
      (∀ j : Fin 8, p.pairs[j].matches (keyByte r j.val) = true)
      ∧ p.minLength ≤ r.body.length ∧ r.body.length ≤ p.maxLength := by
  simp [Pattern.matches, and_assoc]

/-- Settles O23: the Key Window byte by byte, and each byte against its pair. -/
theorem patternMatchesBitByBit : Obligations.PatternMatchesBitByBit := by
  intro p r key
  have hkey (j : Fin 8) : keyByte r j.val = key j := by
    fin_cases j <;> rfl
  rw [Pattern.matches_iff]
  refine and_congr_left fun _ => forall_congr' fun j => ?_
  rw [hkey, KeyPair.matches_iff]

/-! ## The search (R57, R58) -/

theorem RuleEntry.claims_iff (e : RuleEntry) (r : UpRecord) :
    e.claims r = true ↔ e.valid = true ∧ e.pattern.matches r = true := by
  simp [RuleEntry.claims]

theorem verdictOf_of_first {b : Bank} {r : UpRecord} {i : RuleIndex} (h : b.rules[i].claims r = true)
    (hlow : ∀ j : RuleIndex, j < i → b.rules[j].claims r = false) : verdictOf b r = (b.rules[i].verdict, .rule i) := by
  rw [verdictOf, searchRules_eq_some h hlow]

theorem verdictOf_of_none {b : Bank} {r : UpRecord} (h : ∀ i : RuleIndex, b.rules[i].claims r = false) :
    verdictOf b r = (b.defaultVerdict, .defaultVerdict) := by
  rw [verdictOf, searchRules_eq_none h]

/-- The Key Window holds the Channel, the Kind and the first six body bytes (R52). -/
theorem keyByte_congr {r r' : UpRecord} (hch : r'.channel = r.channel) (hkind : r'.kind = r.kind)
    (hbody : r'.body.take 6 = r.body.take 6) {j : Nat} (hj : j < 8) : keyByte r' j = keyByte r j := by
  match j with
  | 0 => simp [keyByte, hch]
  | 1 => simp [keyByte, hkind]
  | k + 2 =>
    have hk : k < 6 := by omega
    calc r'.body[k]? = (r'.body.take 6)[k]? := (List.getElem?_take_of_lt hk).symm
      _ = (r.body.take 6)[k]? := by rw [hbody]
      _ = r.body[k]? := List.getElem?_take_of_lt hk

/-- A Pattern tells records apart by their Key Window and Length alone (R54). -/
theorem Pattern.matches_congr {r r' : UpRecord} (hkeys : ∀ j, j < 8 → keyByte r' j = keyByte r j)
    (hlength : r'.body.length = r.body.length) (p : Pattern) : p.matches r' = p.matches r := by
  rw [Bool.eq_iff_iff, matches_iff, matches_iff, hlength]
  exact and_congr_left fun _ => forall_congr' fun j => by rw [hkeys j.val j.isLt]

theorem verdictOf_congr {r r' : UpRecord} (h : ∀ p : Pattern, p.matches r' = p.matches r) (b : Bank) :
    verdictOf b r' = verdictOf b r := by
  simp only [verdictOf, searchRules, RuleEntry.claims, h]

/-- Settles O24: the first claiming entry, none, and the Key Window that the claims depend on. -/
theorem searchFindsTheFirstMatch : Obligations.SearchFindsTheFirstMatch := by
  intro b r claims
  have hclaims (i : RuleIndex) : b.rules[i].claims r = true ↔ claims i := RuleEntry.claims_iff _ r
  have hpasses {i : RuleIndex} (h : ¬ claims i) : b.rules[i].claims r = false :=
    Bool.eq_false_iff.2 fun hc => h ((hclaims i).1 hc)
  refine ⟨fun i hi hlow => ?_, fun hnone => ?_, fun r' hch hkind hbody hlength => ?_⟩
  · exact verdictOf_of_first ((hclaims i).2 hi) fun j hj => hpasses (hlow j hj)
  · exact verdictOf_of_none fun i => hpasses (hnone i)
  · exact verdictOf_congr (Pattern.matches_congr (fun _ => keyByte_congr hch hkind hbody) hlength) b

/-! ## The swap (R131), and its place in a completion (R70, R74) -/

/-- The marker of a completion: a record of an OPEN channel that matches the marker entry's Pattern (R70). -/
theorem judge_marker_armed (b : Bank) (g : Byte) (now : Word32) (m : RuleIndex) (r : UpRecord) (c : Context) :
    (judge b g now (.armedMarker m) r c).marker = true ↔ c.state = .opened ∧ b.rules[m].pattern.matches r = true := by
  cases hstate : c.state <;> simp [judge, hstate, judgeClosed, judgeQuarantined, judgeOpen, markerTest]

/-- A completion without its swap: the Classifier IDLE, the slot, the context and the notices. -/
def State.completedUnswapped (s : State) (i : SlotId) (bank : BankId) (g : Byte) (r : UpRecord) : State :=
  let j := judge (s.bank bank) g s.timebase.count s.swap r (s.context r.channel)
  (({ s with classifier := .idle }.dispose i r j.disposal).setContext r.channel
    (j.context.counted (s.places j.disposal))).raiseAll (j.notices ++ s.dropNotices j.disposal)

section

variable (s : State) (i : SlotId) (bank : BankId) (g : Byte) (r : UpRecord)

@[simp] theorem State.completedUnswapped_active : (s.completedUnswapped i bank g r).active = s.active := by
  simp [completedUnswapped]

@[simp] theorem State.completedUnswapped_generation : (s.completedUnswapped i bank g r).generation = s.generation := by
  simp [completedUnswapped]

@[simp] theorem State.completedUnswapped_swap : (s.completedUnswapped i bank g r).swap = s.swap := by
  simp [completedUnswapped]

@[simp] theorem State.completedUnswapped_classifier : (s.completedUnswapped i bank g r).classifier = .idle := by
  simp [completedUnswapped]

/-- The swap comes after the record's whole outcome (R74). -/
theorem completeRecord_eq_swapAtCompletion :
    completeRecord i bank g r s = (s.completedUnswapped i bank g r).swapAtCompletion s.swap
      (judge (s.bank bank) g s.timebase.count s.swap r (s.context r.channel)).marker r.channel := rfl

end

/-- Settles O30: the swap by the bank it leaves and by its trigger, and the completion by the Swap State. -/
theorem swapIsOneEvent : Obligations.SwapIsOneEvent := by
  refine ⟨fun s trigger => ?_, ?_⟩
  · rw [State.performSwap]
    cases s.active <;> cases trigger <;> rfl
  · rintro s i rest bank g r ⟨hheld, hbusy, -, hslot⟩
    refine ⟨_, s.completedUnswapped i bank g r, exec_classifyComplete_busy hheld hbusy hslot,
      State.completedUnswapped_active .., State.completedUnswapped_generation .., State.completedUnswapped_swap ..,
      State.completedUnswapped_classifier .., fun hidle => ?_, fun hnext => ?_, fun m harmed => ?_⟩
    · rw [completeRecord_eq_swapAtCompletion, hidle]
      rfl
    · rw [completeRecord_eq_swapAtCompletion, hnext]
      rfl
    · have hmarker := judge_marker_armed (s.bank bank) g s.timebase.count m r (s.context r.channel)
      rw [completeRecord_eq_swapAtCompletion, harmed]
      refine ⟨fun hopen hmatch => if_pos (hmarker.2 ⟨hopen, hmatch⟩), fun hno => if_neg fun h => ?_⟩
      obtain ⟨hopen, hmatch⟩ := hmarker.1 h
      exact hno.elim (fun hstate => hstate hopen) fun hfalse => Bool.false_ne_true (hfalse.symm.trans hmatch)

end Sys2Proof.Machine
end

section
/-! The claims that a millisecond tick raises (R87, R110), and the chain step of a completion by its outcome (R80 to R86). -/

-- One proof after another: side by side, each waiting thread takes a stack of its own.
set_option Elab.async false

namespace Sys2Proof.Machine

/-! ## The claims of a tick (R87, R110) -/

/-- The Deadline is reached at `now` where one stands and its time has come (R87). -/
theorem deadlineReached_iff (now : Word32) (deadline : Option Word32) :
    deadlineReached now deadline = true ↔ ∃ d, deadline = some d ∧ reachedAt now d := by
  cases deadline with
  | none => simp [deadlineReached]
  | some d => simp [deadlineReached_some]

/-- A selection of indices holds each index once or not at all. -/
theorem count_filter_finRange {n : Nat} (p : Fin n → Bool) (i : Fin n) :
    ((List.finRange n).filter p).count i = if p i = true then 1 else 0 := by
  split
  · next h => rw [List.count_filter h, List.count_eq_one_of_mem (List.nodup_finRange n) (List.mem_finRange i)]
  · next h => exact List.count_eq_zero.2 fun hmem => h (List.mem_filter.1 hmem).2

theorem count_tickChannels (s : State) (ch : Channel) :
    (tickChannels s.contexts).count ch =
      if (s.context ch).watchPhase = .running ∨ (s.context ch).watchPhase = .overdue then 1 else 0 := by
  rw [tickChannels, count_filter_finRange]
  exact if_congr (WatchPhase.ticks_iff _) rfl rfl

theorem count_expiredChannels (s : State) (now : Word32) (ch : Channel) :
    (expiredChannels now s.contexts).count ch =
      if deadlineReached now (s.context ch).chainDeadline = true then 1 else 0 :=
  count_filter_finRange _ ch

/-- Of the claims that carry the tick's value, those of a channel are as many as the channel stands in the list. -/
theorem count_map_tick (channels : List Channel) (tick : Word32) (ch : Channel) :
    (channels.map fun k => (k, tick)).count (ch, tick) = channels.count ch :=
  List.count_map_of_injective channels _ (fun _ _ h => (Prod.mk.inj h).1) ch

/-- No claim raised by a tick carries the value of another. -/
theorem count_map_other_tick (channels : List Channel) {tick other : Word32} (h : other ≠ tick) (ch : Channel) :
    (channels.map fun k => (k, tick)).count (ch, other) = 0 := by
  refine List.count_eq_zero.2 fun hmem => ?_
  obtain ⟨k, -, hk⟩ := List.mem_map.1 hmem
  exact h (Prod.mk.inj hk).2.symm

/-- Settles O18: the claims raised stand behind those outstanding, one for each channel due. -/
theorem tickRaisesItsClaims : Obligations.TickRaisesItsClaims := by
  intro s h
  refine ⟨raiseTick s, live_of_released _ h, rfl, ⟨_, rfl⟩, ⟨_, rfl⟩, fun ch => ?_,
    fun ch tick ht => ?_, fun ch d hd hr => ?_, fun ch hnot => ?_⟩
  · rw [raiseTick, List.count_append, count_tickChannels]
  · rw [raiseTick, List.count_append, count_map_other_tick _ ht, Nat.add_zero]
  · rw [raiseTick, List.count_append, count_map_tick, count_expiredChannels,
      if_pos ((deadlineReached_iff ..).2 ⟨d, hd, hr⟩)]
  · rw [raiseTick, List.count_append, count_map_tick, count_expiredChannels, if_neg, Nat.add_zero]
    intro hreached
    obtain ⟨d, hd, hr⟩ := (deadlineReached_iff ..).1 hreached
    exact hnot d hd hr

/-! ## The outcome of a step test (R81 to R86) -/

section

variable {b : Bank} {r : UpRecord} {d : ChainDef} {p : Nat}

theorem stepMatches_iff (step : ChainStep) : stepMatches b r step = true ↔ matchesStep b r step := by
  cases step with
  | rule i => exact RuleEntry.claims_iff _ r
  | any => simp [stepMatches, matchesStep]

theorem ChainDef.matchesAt_iff : d.matchesAt b r p = true ↔ stepMatched b r d p := by
  unfold ChainDef.matchesAt stepMatched
  cases d.steps[p]? <;> simp [stepMatches_iff]

theorem ChainDef.matchesAt_eq_false : d.matchesAt b r p = false ↔ ¬ stepMatched b r d p := by
  rw [← ChainDef.matchesAt_iff, Bool.not_eq_true]

theorem stepMatched.steps_ne_nil (h : stepMatched b r d p) : d.steps ≠ [] := by
  obtain ⟨step, hstep, -⟩ := h
  exact List.ne_nil_of_mem (List.mem_of_getElem? hstep)

theorem stepOutcome_advanced (h : stepMatched b r d p) (hp : p + 1 < d.steps.length) :
    stepOutcome d b r p = .advanced := by
  rw [stepOutcome, if_pos (ChainDef.matchesAt_iff.2 h), if_pos hp]

theorem stepOutcome_completed (h : stepMatched b r d p) (hp : p + 1 = d.steps.length) :
    stepOutcome d b r p = .completed := by
  rw [stepOutcome, if_pos (ChainDef.matchesAt_iff.2 h), if_neg (Nat.not_lt.2 hp.ge)]

theorem stepOutcome_lenient (h : ¬ stepMatched b r d p) (hmode : d.mode = .lenient) :
    stepOutcome d b r p = .passedOver := by
  simp [stepOutcome, ChainDef.matchesAt_eq_false.2 h, hmode]

theorem stepOutcome_restarted (h : ¬ stepMatched b r d p) (hmode : d.mode = .strict) (hp : 0 < p)
    (h0 : stepMatched b r d 0) : stepOutcome d b r p = .restarted := by
  simp [stepOutcome, ChainDef.matchesAt_eq_false.2 h, hmode, hp, ChainDef.matchesAt_iff.2 h0]

theorem stepOutcome_broken (h : ¬ stepMatched b r d p) (hmode : d.mode = .strict)
    (h0 : p = 0 ∨ ¬ stepMatched b r d 0) : stepOutcome d b r p = .broken := by
  have hno : ¬ (0 < p ∧ d.matchesAt b r 0 = true) := by
    rintro ⟨hp, hm⟩
    exact h0.elim (fun e => hp.ne' e) fun hn => hn (ChainDef.matchesAt_iff.1 hm)
  simp only [stepOutcome, ChainDef.matchesAt_eq_false.2 h, hmode, if_neg hno]
  rfl

/-! ## The chain step by its outcome (R80 to R86) -/

variable {now : Word32} {c : Context} {n : ChainId}

/-- Without a defined chain the record is not evaluated (R80). -/
theorem chainStep_unbound (h : c.boundChain b = none) : chainStep b now r c = ⟨c, none, []⟩ := by
  rw [chainStep, h]

/-- An evaluation that does not complete the chain leaves its run and nothing else. -/
theorem chainStep_of_outcome (h : c.boundChain b = some (n, d)) {o : StepOutcome}
    (ho : stepOutcome d b r c.chainProgress = o) (hc : o ≠ .completed) :
    chainStep b now r c = ⟨c.afterStep d now o, none, []⟩ := by
  rw [chainStep, h]
  simp only [ho]

/-- A completed chain leaves its run cleared, its action to be applied, and its CHAIN_DONE (R83). -/
theorem chainStep_completed (h : c.boundChain b = some (n, d)) (ho : stepOutcome d b r c.chainProgress = .completed) :
    chainStep b now r c =
      ⟨c.clearRun, some d, if d.notify = true ∧ c.notify = true then [chainDoneNotice r.channel n] else []⟩ := by
  rw [chainStep, h]
  simp only [ho, Context.afterStep, Context.gated, ite_and]

end

/-- Settles O25: the outcome of the step test in each case, and the chain step of that outcome. -/
theorem chainStepOutcomes : Obligations.ChainStepOutcomes := by
  intro b now r c
  refine ⟨fun hbinding => chainStep_unbound (by rw [Context.boundChain, hbinding]), fun n hbinding => ?_⟩
  intro d p
  have hbound (hd : d.steps ≠ []) : c.boundChain b = some (n, d) := Context.boundChain_eq_some hbinding hd
  refine ⟨fun hd => chainStep_unbound ?_, fun hm hp => ?_, fun hm hp => ?_,
    fun hd hm hmode => ⟨fun hp h0 => ?_, fun h0 => ?_⟩, fun hd hm hmode => ?_⟩
  · have hempty : b.chains[n].steps = [] := hd
    simp only [Context.boundChain, hbinding, hempty]
    rfl
  · exact chainStep_of_outcome (hbound hm.steps_ne_nil) (stepOutcome_advanced hm hp) (by decide)
  · exact chainStep_completed (hbound hm.steps_ne_nil) (stepOutcome_completed hm hp)
  · exact chainStep_of_outcome (hbound hd) (stepOutcome_restarted hm hmode hp h0) (by decide)
  · exact chainStep_of_outcome (hbound hd) (stepOutcome_broken hm hmode h0) (by decide)
  · exact chainStep_of_outcome (hbound hd) (stepOutcome_lenient hm hmode) (by decide)

end Sys2Proof.Machine
end

section
/-! The entries of the tables and of a MODIFY CONTEXT as bytes (11.2 to 11.4, R172): each is read exactly from its own bytes. -/

-- One proof after another: side by side, each waiting thread takes a stack of its own.
set_option Elab.async false

namespace Sys2Proof.Machine

/-! ## The codes of 11.2, read back -/

theorem Action.code_eq (a : Action) : a.code = actionByte a := by
  cases a <;> rfl

theorem ChainMode.code_eq (m : ChainMode) : m.code = modeByte m := by
  cases m <;> rfl

theorem CompletionAction.code_eq (a : CompletionAction) : a.code = completionByte a := by
  cases a <;> rfl

theorem ChainStep.code_eq (st : ChainStep) : st.code = stepByte st := by
  cases st <;> rfl

section

variable {b : Byte}

theorem parseState_eq_some_iff {v : ChannelState} : parseState b = some v ↔ stateByte v = b := by
  unfold parseState
  cases v <;> grind [stateByte]

theorem parseSilenceAction_eq_some_iff {v : SilenceAction} : parseSilenceAction b = some v ↔ silenceByte v = b := by
  unfold parseSilenceAction
  cases v <;> grind [silenceByte]

theorem parseFlag_eq_some_iff {v : Bool} : parseFlag b = some v ↔ bitByte v = b := by
  unfold parseFlag
  cases v <;> grind [bitByte]

theorem parseAction_eq_some_iff {v : Action} : parseAction b = some v ↔ actionByte v = b := by
  unfold parseAction
  cases v <;> grind [actionByte]

theorem parseMode_eq_some_iff {v : ChainMode} : parseMode b = some v ↔ modeByte v = b := by
  unfold parseMode
  cases v <;> grind [modeByte]

theorem parseCompletionAction_eq_some_iff {v : CompletionAction} :
    parseCompletionAction b = some v ↔ completionByte v = b := by
  unfold parseCompletionAction
  cases v <;> grind [completionByte]

/-- An index is read exactly from the byte that holds it. -/
theorem indexOf_eq_some_iff {n : Nat} (hn : n ≤ 256) {i : Fin n} : indexOf n b = some i ↔ BitVec.ofNat 8 i.val = b := by
  have hi := i.isLt
  constructor
  · intro h
    unfold indexOf at h
    split at h
    · cases h
      exact byteOf_toNat b
    · cases h
  · rintro rfl
    have hval : (BitVec.ofNat 8 i.val).toNat = i.val := by
      rw [BitVec.toNat_ofNat]
      exact Nat.mod_eq_of_lt (by omega)
    rw [indexOf_eq_some (by omega)]
    exact congrArg some (Fin.ext hval)

/-- FFh for one value and an index for the others: the value read has the byte it was read from. -/
theorem code_of_parseOther {α : Type} {n : Nat} {other : α} (code : α → Byte) (index : Fin n → α) (hn : n ≤ 256)
    (hother : code other = 0xFF#8) (hindex : ∀ i, code (index i) = BitVec.ofNat 8 i.val) {v : α}
    (h : (if b = 0xFF#8 then some other else (indexOf n b).map index) = some v) : code v = b := by
  split at h
  · next hb =>
    cases h
    exact hother.trans hb.symm
  · obtain ⟨i, hi, rfl⟩ := Option.map_eq_some_iff.1 h
    exact (hindex i).trans ((indexOf_eq_some_iff hn).1 hi)

theorem parseMap_eq_some_iff {m : MapSelect} : parseMap b = some m ↔ mapByte m = b :=
  ⟨code_of_parseOther mapByte MapSelect.map (by decide) rfl fun _ => rfl, fun h => h ▸ parseMap_mapByte m⟩

theorem parseChainBinding_eq_some_iff {v : Option ChainId} : parseChainBinding b = some v ↔ bindingByte v = b :=
  ⟨code_of_parseOther bindingByte some (by decide) rfl fun _ => rfl, fun h => h ▸ parseChainBinding_bindingByte v⟩

theorem parseStep_stepByte (st : ChainStep) : parseStep (stepByte st) = some st := by
  cases st with
  | any => rfl
  | rule i =>
    revert i
    decide

theorem parseStep_eq_some_iff {st : ChainStep} : parseStep b = some st ↔ stepByte st = b :=
  ⟨code_of_parseOther stepByte ChainStep.rule (by decide) rfl fun _ => rfl, fun h => h ▸ parseStep_stepByte st⟩

end

/-! ## Byte lists -/

/-- A list is read exactly from the codes of its items, when each item is read exactly from its own. -/
theorem parseAll_eq_some_iff {α β : Type} {f : α → Option β} {g : β → α} (h : ∀ a b, f a = some b ↔ g b = a)
    {l : List α} {m : List β} : parseAll f l = some m ↔ m.map g = l := by
  constructor
  · intro hl
    induction l generalizing m with
    | nil =>
      cases hl
      rfl
    | cons a as ih =>
      unfold parseAll at hl
      split at hl
      · next y ys hy hys =>
        cases hl
        rw [List.map_cons, (h a y).1 hy, ih hys]
      · cases hl
  · rintro rfl
    exact parseAll_map m fun b _ => (h _ b).2 rfl

/-- A stretch of a list, item by item. -/
theorem take_drop_eq_map_getD {α : Type} (xs : List α) (d : α) {start count : Nat} (h : start + count ≤ xs.length) :
    (xs.drop start).take count = (List.range count).map fun i => xs.getD (start + i) d := by
  refine List.ext_getElem (by simp; omega) fun i hi hi' => ?_
  have : start + i < xs.length := by simp at hi; omega
  simp [this]

/-! ## Verdicts and rule entries (11.3, R128) -/

theorem Verdict.bytes_eq (v : Verdict) : v.bytes = verdictBytes v := by
  simp only [Verdict.bytes, verdictBytes, Action.code_eq, MapSelect.code_eq, flagCode_eq, byteOf]

theorem parseVerdict_eq_some_iff {bs : List Byte} (h : bs.length = 5) {v : Verdict} :
    parseVerdict bs = some v ↔ verdictBytes v = bs := by
  match bs, h with
  | [action, queue, map, tag, heartbeat], _ =>
  simp only [verdictBytes, List.cons.injEq, and_true, ← parseAction_eq_some_iff, ← indexOf_eq_some_iff (n := 4) (by decide),
    ← indexOf_eq_some_iff (n := 16) (by decide), ← parseMap_eq_some_iff, ← parseFlag_eq_some_iff]
  constructor
  · intro hv
    unfold parseVerdict at hv
    split at hv
    · next ha hq hm ht hh =>
      cases hv
      exact ⟨ha, hq, hm, ht, hh⟩
    · cases hv
  · rintro ⟨ha, hq, hm, ht, hh⟩
    simp [parseVerdict, ha, hq, hm, ht, hh]

theorem Pattern.wf_iff (p : Pattern) : p.wf = true ↔ p.minLength ≤ 248 ∧ p.maxLength ≤ 248 := by
  rw [Pattern.wf, Bool.and_eq_true, decide_eq_true_iff, decide_eq_true_iff]
  rfl

theorem RuleEntry.bytes_eq (e : RuleEntry) : e.bytes = ruleBytes e := by
  have hpairs : e.pattern.pairs.toList = (List.finRange 8).map fun j => e.pattern.pairs[j] :=
    List.ext_getElem (by simp) fun i _ _ => by simp
  simp only [RuleEntry.bytes, ruleBytes, flagCode_eq, Verdict.bytes_eq, hpairs, List.flatMap_map, byteOf]
  rfl

/-- The parts of a rule entry's 24 bytes: Valid, the key pairs, the Length Range and the Verdict. -/
theorem rule_layout {bs : List Byte} (h : bs.length = 24) :
    bs = bs.getD 0 0#8 :: ((List.finRange 8).flatMap fun j => [bs.getD (1 + 2 * j.val) 0#8, bs.getD (2 + 2 * j.val) 0#8])
      ++ [bs.getD 17 0#8, bs.getD 18 0#8] ++ bs.drop 19 := by
  have hfront := take_drop_eq_map_getD bs 0#8 (start := 0) (count := 19) (by omega)
  simp only [Nat.zero_add, List.drop_zero] at hfront
  calc bs = bs.take 19 ++ bs.drop 19 := (List.take_append_drop 19 bs).symm
    _ = _ := by rw [hfront]; rfl

/-- The key pairs stand behind the Valid byte, each with its Care Mask second (11.3). -/
theorem parsePairs_ruleBytes (e : RuleEntry) : parsePairs (ruleBytes e) = e.pattern.pairs := by
  refine Vector.ext fun j hj => ?_
  rw [parsePairs, Vector.getElem_ofFn]
  have hj : j < 8 := hj
  interval_cases j <;> rfl

theorem parseRule_eq_some_iff {bs : List Byte} (h : bs.length = 24) {e : RuleEntry} :
    parseRule bs = some e ↔ e.wf = true ∧ ruleBytes e = bs := by
  have hverdict {v : Verdict} : parseVerdict (bs.drop 19) = some v ↔ verdictBytes v = bs.drop 19 :=
    parseVerdict_eq_some_iff (by rw [List.length_drop, h])
  constructor
  · intro he
    unfold parseRule at he
    split at he
    · next valid verdict hvalid hv =>
      split at he
      · next hrange =>
        cases he
        refine ⟨(Pattern.wf_iff _).2 hrange, ?_⟩
        conv_rhs => rw [rule_layout h]
        simp only [ruleBytes, parseFlag_eq_some_iff.1 hvalid, hverdict.1 hv, parsePairs, Fin.getElem_fin, Vector.getElem_ofFn,
          BitVec.ofNat_toNat, BitVec.setWidth_eq]
      · cases he
    · cases he
  · rintro ⟨hwf, rfl⟩
    obtain ⟨hmin, hmax⟩ := e.pattern.wf_iff.1 hwf
    have hvalid : parseFlag ((ruleBytes e).getD 0 0#8) = some e.valid := parseFlag_eq_some_iff.2 rfl
    have hminByte : ((ruleBytes e).getD 17 0#8).toNat = e.pattern.minLength := by
      rw [show (ruleBytes e).getD 17 0#8 = BitVec.ofNat 8 e.pattern.minLength from rfl, BitVec.toNat_ofNat]
      omega
    have hmaxByte : ((ruleBytes e).getD 18 0#8).toNat = e.pattern.maxLength := by
      rw [show (ruleBytes e).getD 18 0#8 = BitVec.ofNat 8 e.pattern.maxLength from rfl, BitVec.toNat_ofNat]
      omega
    rw [parseRule, hvalid, hverdict.2 rfl, hminByte, hmaxByte, parsePairs_ruleBytes]
    exact if_pos ⟨hmin, hmax⟩

/-! ## Chain definitions (11.3, R77, R78, R172) -/

theorem ChainDef.wf_iff (d : ChainDef) :
    d.wf = true ↔ (d.steps = [] ∨ 2 ≤ d.steps.length ∧ d.steps.length ≤ 8) ∧ d.window ≤ 60000
      ∧ 1 ≤ d.actionCount ∧ d.actionCount ≤ 15 := by
  simp only [ChainDef.wf, Bool.and_eq_true, Bool.or_eq_true, decide_eq_true_iff, List.isEmpty_iff, and_assoc]

/-- A chain that names steps, of 2 to 8 of them. -/
theorem ChainDef.steps_bounds {d : ChainDef} (h : d.wf = true) (hd : d.steps ≠ []) :
    2 ≤ d.steps.length ∧ d.steps.length ≤ 8 :=
  (d.wf_iff.1 h).1.resolve_left hd

theorem twoBytes_pairValue (hi lo : Byte) : twoBytes (pairValue hi lo) = [hi, lo] := by
  have hvalue : pairValue hi lo = 256 * hi.toNat + lo.toNat := by
    rw [pairValue, word16, BitVec.toNat_append, ← Nat.shiftLeft_add_eq_or_of_lt lo.isLt, Nat.shiftLeft_eq, Nat.mul_comm]
  have := hi.isLt
  have := lo.isLt
  simp only [twoBytes, hvalue, List.cons.injEq, and_true]
  constructor <;> refine BitVec.eq_of_toNat_eq ?_ <;> rw [BitVec.toNat_ofNat] <;> omega

/-- The stored form of a chain: the steps beyond the Step Count are 00h (R172). -/
theorem ChainDef.bytes_eq (d : ChainDef) : d.bytes = chainBytes d (List.replicate (8 - d.steps.length) 0x00#8) := by
  have hsteps : chainStepBytes d.steps =
      (d.steps.map stepByte ++ List.replicate (8 - d.steps.length) 0x00#8).take 8 := by
    refine List.ext_getElem (by simp [chainStepBytes]; omega) fun i hi _ => ?_
    have hi : i < 8 := by simpa [chainStepBytes] using hi
    by_cases h : i < d.steps.length
    · simp [chainStepBytes, h, ChainStep.code_eq]
    · simp [chainStepBytes, h, List.getElem_append]
  simp only [ChainDef.bytes, chainBytes, hsteps, ChainMode.code_eq, millisBytes, bytes16_ofNat, CompletionAction.code_eq,
    MapSelect.code_eq, flagCode_eq, byteOf]

/-- The bytes of a chain whose eight step bytes are given whole. -/
theorem chainBytes_eq {d : ChainDef} {beyond : List Byte} (h : d.steps.length + beyond.length = 8) :
    chainBytes d beyond = BitVec.ofNat 8 d.steps.length :: (d.steps.map stepByte ++ beyond ++
      ([modeByte d.mode] ++ twoBytes d.window ++
        [completionByte d.action, mapByte d.actionMap, BitVec.ofNat 8 d.actionCount, bitByte d.notify])) := by
  rw [chainBytes, List.take_of_length_le (by simp [h])]
  simp only [List.append_assoc]

theorem chainBytes_length {d : ChainDef} {beyond : List Byte} (h : d.steps.length + beyond.length = 8) :
    (chainBytes d beyond).length = 16 := by
  rw [chainBytes_eq h]
  simp [twoBytes]
  omega

theorem chainBytes_count {d : ChainDef} (h : d.steps.length ≤ 8) (beyond : List Byte) :
    ((chainBytes d beyond).getD 0 0#8).toNat = d.steps.length := by
  rw [chainBytes, List.getD_cons_zero, BitVec.toNat_ofNat]
  omega

/-- The parts of a chain's 16 bytes. -/
theorem chain_layout {bs : List Byte} (h : bs.length = 16) :
    bs = bs.getD 0 0#8 :: ((bs.drop 1).take 8 ++ [bs.getD 9 0#8, bs.getD 10 0#8, bs.getD 11 0#8, bs.getD 12 0#8,
      bs.getD 13 0#8, bs.getD 14 0#8, bs.getD 15 0#8]) := by
  match bs, h with
  | [_, _, _, _, _, _, _, _, _, _, _, _, _, _, _, _], _ => rfl

/-- The byte at a place behind the eight step bytes. -/
theorem getD_behind_steps (b : Byte) {mid : List Byte} (h : mid.length = 8) (tail : List Byte) (i : Nat) :
    (b :: (mid ++ tail)).getD (9 + i) 0#8 = tail.getD i 0#8 := by
  have hplace : 9 + i = (mid.length + i) + 1 := by omega
  rw [hplace, List.getD_cons_succ, List.getD_append_right _ _ _ _ (Nat.le_add_right ..), Nat.add_sub_cancel_left]

/-- The bytes from which a chain's parts are read, with a Step Count of 2 to 8 (R172). -/
structure ChainDef.ReadFrom (d : ChainDef) (bs : List Byte) : Prop where
  steps       : d.steps.map stepByte = (bs.drop 1).take (bs.getD 0 0#8).toNat
  mode        : modeByte d.mode = bs.getD 9 0#8
  window      : d.window = pairValue (bs.getD 10 0#8) (bs.getD 11 0#8)
  action      : completionByte d.action = bs.getD 12 0#8
  actionMap   : mapByte d.actionMap = bs.getD 13 0#8
  actionCount : d.actionCount = (bs.getD 14 0#8).toNat
  notify      : bitByte d.notify = bs.getD 15 0#8

theorem ChainDef.readFrom_chainBytes {d : ChainDef} {beyond : List Byte} (h : d.wf = true)
    (hlen : d.steps.length + beyond.length = 8) : d.ReadFrom (chainBytes d beyond) := by
  obtain ⟨-, hwindow, -, hcount⟩ := d.wf_iff.1 h
  have hmid : (d.steps.map stepByte ++ beyond).length = 8 := by rw [List.length_append, List.length_map, hlen]
  have hbehind := getD_behind_steps (BitVec.ofNat 8 d.steps.length) hmid
    ([modeByte d.mode] ++ twoBytes d.window ++
      [completionByte d.action, mapByte d.actionMap, BitVec.ofNat 8 d.actionCount, bitByte d.notify])
  rw [← chainBytes_eq hlen] at hbehind
  have hsteps := chainBytes_count (d := d) (by omega) beyond
  refine ⟨?_, (hbehind 0).symm, ?_, (hbehind 3).symm, (hbehind 4).symm, ?_, (hbehind 6).symm⟩
  · rw [hsteps, chainBytes_eq hlen, List.drop_one, List.tail_cons, List.append_assoc, List.take_left' (by simp)]
  · rw [hbehind 1, hbehind 2]
    exact (pairValue_twoBytes (by omega)).symm
  · rw [hbehind 5]
    refine Eq.trans ?_ (BitVec.toNat_ofNat ..).symm
    omega

/-- As many steps are read as the Step Count names. -/
theorem ChainDef.ReadFrom.steps_length {d : ChainDef} {bs : List Byte} (h : d.ReadFrom bs) (hlen : bs.length = 16)
    (h8 : (bs.getD 0 0#8).toNat ≤ 8) : d.steps.length = (bs.getD 0 0#8).toNat := by
  rw [← List.length_map stepByte, h.steps, List.length_take, List.length_drop, hlen]
  omega

/-- Parts read from 16 bytes with a Step Count of at most 8 have those bytes, whatever stands beyond the steps. -/
theorem ChainDef.ReadFrom.eq_chainBytes {d : ChainDef} {bs : List Byte} (h : d.ReadFrom bs) (hlen : bs.length = 16)
    (h8 : (bs.getD 0 0#8).toNat ≤ 8) : ∃ beyond, d.steps.length + beyond.length = 8 ∧ bs = chainBytes d beyond := by
  have hsteps := h.steps_length hlen h8
  have hcount : bs.getD 0 0#8 = BitVec.ofNat 8 d.steps.length := by
    rw [hsteps]
    exact (byteOf_toNat _).symm
  have hmid : (bs.drop 1).take 8 = d.steps.map stepByte ++ ((bs.drop 1).take 8).drop d.steps.length := by
    rw [h.steps, hsteps, ← Nat.min_eq_left h8, ← List.take_take, Nat.min_eq_left h8, List.take_append_drop]
  have hbeyond : d.steps.length + (((bs.drop 1).take 8).drop d.steps.length).length = 8 := by
    simp [hlen]
    omega
  refine ⟨((bs.drop 1).take 8).drop d.steps.length, hbeyond, ?_⟩
  rw [chainBytes_eq hbeyond, ← hmid, ← hcount, h.mode, h.window, twoBytes_pairValue, h.action, h.actionMap, h.actionCount,
    h.notify, BitVec.ofNat_toNat, BitVec.setWidth_eq]
  exact chain_layout hlen

/-- With a Step Count of 2 to 8 the parts are read each from its byte, and the Window and the Action Count are in range. -/
theorem parseChain_eq_some_iff_readFrom {bs : List Byte} (h2 : 2 ≤ (bs.getD 0 0#8).toNat) (h8 : (bs.getD 0 0#8).toNat ≤ 8)
    {d : ChainDef} : parseChain bs = some d ↔
      d.ReadFrom bs ∧ d.window ≤ 60000 ∧ 1 ≤ d.actionCount ∧ d.actionCount ≤ 15 := by
  have hsteps {l : List Byte} {m : List ChainStep} : parseAll parseStep l = some m ↔ m.map stepByte = l :=
    parseAll_eq_some_iff fun _ _ => parseStep_eq_some_iff
  simp only [parseChain, if_neg (show ¬ (bs.getD 0 0#8).toNat = 0 by omega),
    if_neg (show ¬ ((bs.getD 0 0#8).toNat < 2 ∨ 8 < (bs.getD 0 0#8).toNat) by omega)]
  constructor
  · intro h
    split at h
    · next steps mode action map notify hs hm ha hmap hn =>
      split at h
      · next hrange =>
        cases h
        exact ⟨⟨hsteps.1 hs, parseMode_eq_some_iff.1 hm, rfl, parseCompletionAction_eq_some_iff.1 ha,
          parseMap_eq_some_iff.1 hmap, rfl, parseFlag_eq_some_iff.1 hn⟩, hrange⟩
      · cases h
    · cases h
  · rintro ⟨⟨hs, hm, hw, ha, hmap, hc, hn⟩, hrange⟩
    rw [hsteps.2 hs, parseMode_eq_some_iff.2 hm, parseCompletionAction_eq_some_iff.2 ha, parseMap_eq_some_iff.2 hmap,
      parseFlag_eq_some_iff.2 hn, ← hw, ← hc]
    exact if_pos hrange

/-- A Step Count of 0 is the empty value, whatever the other bytes are (R77). -/
theorem parseChain_zero (others : List Byte) : parseChain (0x00#8 :: others) = some ChainDef.empty := rfl

theorem parseChain_eq_none {bs : List Byte} (h0 : (bs.getD 0 0#8).toNat ≠ 0)
    (h : ¬ (2 ≤ (bs.getD 0 0#8).toNat ∧ (bs.getD 0 0#8).toNat ≤ 8)) : parseChain bs = none := by
  simp only [parseChain, if_neg h0]
  exact if_pos (by omega)

/-- The 16 bytes of a chain that names steps are read exactly as that chain, whatever stands beyond its steps (R172). -/
theorem parseChain_eq_some_iff {bs : List Byte} (hlen : bs.length = 16) (h0 : bs.getD 0 0#8 ≠ 0x00#8) {d : ChainDef} :
    parseChain bs = some d ↔ d.wf = true ∧ d.steps ≠ []
      ∧ ∃ beyond, d.steps.length + beyond.length = 8 ∧ bs = chainBytes d beyond := by
  constructor
  · intro h
    have hcount : 2 ≤ (bs.getD 0 0#8).toNat ∧ (bs.getD 0 0#8).toNat ≤ 8 := by
      by_contra hcount
      have hne : (bs.getD 0 0#8).toNat ≠ 0 := fun e => h0 (BitVec.eq_of_toNat_eq e)
      rw [parseChain_eq_none hne hcount] at h
      cases h
    obtain ⟨h2, h8⟩ := hcount
    obtain ⟨hread, hrange⟩ := (parseChain_eq_some_iff_readFrom h2 h8).1 h
    have hsteps := hread.steps_length hlen h8
    exact ⟨d.wf_iff.2 ⟨.inr (by omega), hrange⟩, List.ne_nil_of_length_pos (by omega), hread.eq_chainBytes hlen h8⟩
  · rintro ⟨hwf, hd, beyond, hbeyond, rfl⟩
    obtain ⟨h2, h8⟩ := ChainDef.steps_bounds hwf hd
    have hcount := chainBytes_count h8 beyond
    exact (parseChain_eq_some_iff_readFrom (by omega) (by omega)).2
      ⟨ChainDef.readFrom_chainBytes hwf hbeyond, (d.wf_iff.1 hwf).2⟩

theorem parseChain_chainBytes {d : ChainDef} {beyond : List Byte} (h : d.wf = true) (hd : d.steps ≠ [])
    (hlen : d.steps.length + beyond.length = 8) : parseChain (chainBytes d beyond) = some d := by
  obtain ⟨h2, h8⟩ := ChainDef.steps_bounds h hd
  have hcount := chainBytes_count h8 beyond
  refine (parseChain_eq_some_iff (chainBytes_length hlen) fun e => ?_).2 ⟨h, hd, beyond, hlen, rfl⟩
  rw [e] at hcount
  exact absurd h2 (hcount ▸ by decide)

/-- The stored form of a chain that names steps has its eight step bytes. -/
theorem stepBytes_length {d : ChainDef} (h : d.wf = true) (hd : d.steps ≠ []) :
    d.steps.length + (List.replicate (8 - d.steps.length) (0x00#8 : Byte)).length = 8 := by
  obtain ⟨-, h8⟩ := ChainDef.steps_bounds h hd
  rw [List.length_replicate]
  omega

/-- A chain that is read is within its ranges, and is read from its stored form. -/
theorem parseChain_stored {bs : List Byte} (hlen : bs.length = 16) {d : ChainDef} (h : parseChain bs = some d) :
    d.wf = true ∧ parseChain d.bytes = some d := by
  by_cases h0 : bs.getD 0 0#8 = 0x00#8
  · have hempty : d = ChainDef.empty := by
      simp only [parseChain, h0] at h
      exact (Option.some.inj h).symm
    subst hempty
    exact ⟨rfl, rfl⟩
  · obtain ⟨hwf, hd, -⟩ := (parseChain_eq_some_iff hlen h0).1 h
    rw [ChainDef.bytes_eq]
    exact ⟨hwf, parseChain_chainBytes hwf hd (stepBytes_length hwf hd)⟩

/-! ## Map entries (11.3, R172) -/

theorem MapEntry.bytes_eq (e : MapEntry) : e.bytes = mapEntryBytes 0x00#8 e := by
  cases e <;> rfl

theorem mapEntryBytes_length (second : Byte) (e : MapEntry) : (mapEntryBytes second e).length = 2 := by
  cases e <;> rfl

/-- An entry is read exactly from its form and its Out Kind; the second byte of a DROP is not examined. -/
theorem parseMapEntry_eq_some_iff {form second : Byte} {e : MapEntry} :
    parseMapEntry [form, second] = some e ↔ mapEntryBytes second e = [form, second] := by
  unfold parseMapEntry
  cases e <;> grind [mapEntryBytes]

theorem parseMapEntry_mapEntryBytes (second : Byte) (e : MapEntry) : parseMapEntry (mapEntryBytes second e) = some e := by
  cases e <;> rfl

theorem parseMapEntry_eq_none_iff {x : List Byte} (h : x.length = 2) :
    parseMapEntry x = none ↔ x.head? ≠ some 0x00#8 ∧ x.head? ≠ some 0x01#8 := by
  match x, h with
  | [form, second], _ =>
  unfold parseMapEntry
  grind

/-! ## Assignments (11.4, R172) -/

/-- A Watch Limit that is read has the two bytes it was read from. -/
theorem twoBytes_of_parseWatchLimit {hi lo : Byte} {v : Option Nat} (h : parseWatchLimit (pairValue hi lo) = some v) :
    twoBytes (v.getD 0) = [hi, lo] := by
  have hvalue : v.getD 0 = pairValue hi lo := by
    unfold parseWatchLimit at h
    split at h
    · next h0 =>
      cases h
      exact h0.symm
    · split at h
      · cases h
        rfl
      · cases h
  rw [hvalue, twoBytes_pairValue]

/-- A one-byte field that is read has the bytes it was read from. -/
theorem bytes_of_field {α : Type} {parse : Byte → Option α} {byte : α → Byte} {field : α → Assignment} {code v : Byte}
    {a : Assignment} (hparse : ∀ b x, parse b = some x → byte x = b)
    (hbytes : ∀ x, (field x).bytes = [code, byte x, 0x00#8]) (h : (parse v).map field = some a) :
    a.bytes = [code, v, 0x00#8] := by
  obtain ⟨x, hx, rfl⟩ := Option.map_eq_some_iff.1 h
  rw [hbytes, hparse v x hx]

/-- An assignment that is read has the bytes it was read from. -/
theorem bytes_of_parseAssignment {bs : List Byte} {a : Assignment} (h : parseAssignment bs = some a) : a.bytes = bs := by
  unfold parseAssignment at h
  split at h
  · next code v w =>
    split at h
    · next hcode =>
      obtain ⟨limit, hlimit, rfl⟩ := Option.map_eq_some_iff.1 h
      rw [Assignment.bytes, twoBytes_of_parseWatchLimit hlimit, hcode]
    · split at h
      · next hcode =>
        split at h
        · next m hm =>
          split at h
          · cases h
            rw [Assignment.bytes, parseMap_eq_some_iff.1 hm, hcode]
            simp
          · cases h
        · cases h
      · split at h
        · cases h
        · next hw =>
          have hw : w = 0x00#8 := not_not.1 hw
          subst hw
          split at h
          · next hcode => exact hcode ▸ bytes_of_field (fun _ _ => parseState_eq_some_iff.1) (fun _ => rfl) h
          · split at h
            · next hcode => exact hcode ▸ bytes_of_field (fun _ _ => parseChainBinding_eq_some_iff.1) (fun _ => rfl) h
            · split at h
              · next hcode => exact hcode ▸ bytes_of_field (fun _ _ => parseSilenceAction_eq_some_iff.1) (fun _ => rfl) h
              · split at h
                · next hcode => exact hcode ▸ bytes_of_field (fun _ _ => parseFlag_eq_some_iff.1) (fun _ => rfl) h
                · cases h
  · cases h

/-- Settles O52: each kind of entry is read exactly from its bytes. -/
theorem entryEncodingsRoundTrip : Obligations.EntryEncodingsRoundTrip := by
  refine ⟨RuleEntry.bytes_eq, Verdict.bytes_eq, ChainDef.bytes_eq, MapEntry.bytes_eq, fun e h => ?_, fun bs e hlen h => ?_,
    fun v => ?_, fun bs v hlen h => ?_, fun d h hd => ?_, fun bs d hlen h => parseChain_stored hlen h,
    fun d beyond h hd hlen => parseChain_chainBytes h hd hlen, fun bs d hlen hhead h => ?_, parseChain_zero, fun e => ?_,
    fun e second => parseMapEntry_mapEntryBytes second e, fun x k e h => (parseMapEntry_eq_some_iff.1 h).symm,
    fun a h => parseAssignment_bytes h, fun bs a h => ⟨bytes_of_parseAssignment h, parseAssignment_wf h⟩⟩
  · rw [RuleEntry.bytes_eq]
    exact ⟨(parseRule_eq_some_iff rfl).2 ⟨h, rfl⟩, rfl⟩
  · obtain ⟨hwf, hbytes⟩ := (parseRule_eq_some_iff hlen).1 h
    exact ⟨e.bytes_eq.trans hbytes, hwf⟩
  · rw [Verdict.bytes_eq]
    exact ⟨(parseVerdict_eq_some_iff rfl).2 rfl, rfl⟩
  · exact v.bytes_eq.trans ((parseVerdict_eq_some_iff hlen).1 h)
  · rw [ChainDef.bytes_eq]
    exact ⟨parseChain_chainBytes h hd (stepBytes_length h hd), chainBytes_length (stepBytes_length h hd)⟩
  · have h0 : bs.getD 0 0#8 ≠ 0x00#8 := by
      cases bs with
      | nil => cases hlen
      | cons b others => exact fun e => hhead (congrArg some e)
    obtain ⟨-, -, hbytes⟩ := (parseChain_eq_some_iff hlen h0).1 h
    exact hbytes
  · rw [MapEntry.bytes_eq]
    exact parseMapEntry_mapEntryBytes _ e

end Sys2Proof.Machine
end

section
/-! The writers of staging (R128, R129, R136) and the readers of either bank (R125), by the outcome of their tests. -/

-- One proof after another: side by side, each waiting thread takes a stack of its own.
set_option Elab.async false

namespace Sys2Proof.Machine

/-! ## The outcomes of a request's tests (R136, R157) -/

theorem SwapState.armed_of_ne_idle {w : SwapState} (h : w ≠ .idle) : w.armed = true := by
  by_contra harmed
  exact h (SwapState.armed_eq_false harmed)

theorem State.setStaging_requestFifo_comm (s : State) (b : Bank) (rest : List Request) :
    ({ s with requestFifo := rest } : State).setStaging b = { s.setStaging b with requestFifo := rest } := by
  simp only [State.setStaging]
  cases s.active <;> rfl

section

variable {α : Type} {s : State} {r : Request} (rest : List Request) {v : Except Status α}

/-- A request that fails a test is answered with the Status of that test. -/
theorem answerChecked_refused {e : Status} (he : s.engine = .idle) (hv : v = .error e) (act : α → State) :
    answerChecked v r { s with requestFifo := rest } act = s.answered rest (r.reply e []) := by
  rw [hv, answerChecked_error, State.respond_eq_answered he]

variable {a : α} (write : α → Bank → Bank)

/-- A writer that passes its tests writes the staging bank, with no swap armed. -/
theorem answerWriter_writes (he : s.engine = .idle) (hv : v = .ok a) (hswap : s.swap = .idle) :
    answerWriter v write r { s with requestFifo := rest } =
      (s.setStaging (write a s.stagingBank)).answered rest (r.reply .ok []) := by
  rw [hv, answerWriter, answerChecked_ok, if_neg (by rw [hswap]; decide), State.setStaging_requestFifo_comm]
  exact State.respond_eq_answered (by rw [State.setStaging_engine, he]) r rest .ok []

/-- A writer that passes its tests is refused while a swap is armed (R136). -/
theorem answerWriter_frozen (he : s.engine = .idle) (hv : v = .ok a) (hswap : s.swap ≠ .idle) :
    answerWriter v write r { s with requestFifo := rest } = s.answered rest (r.reply .stagingFrozen []) := by
  rw [hv, answerWriter, answerChecked_ok, if_pos (SwapState.armed_of_ne_idle hswap), State.respond_eq_answered he]

end

/-- A long operation is refused while a swap is armed (R136). -/
theorem beginLong_frozen {s : State} {r : Request} (rest : List Request) (busy : Engine) (he : s.engine = .idle)
    (hparams : r.params = []) (hswap : s.swap ≠ .idle) :
    beginLong busy r { s with requestFifo := rest } = s.answered rest (r.reply .stagingFrozen []) := by
  rw [beginLong, hparams, validEmpty, List.isEmpty_nil, checked_some, answerChecked_ok,
    if_pos (SwapState.armed_of_ne_idle hswap), State.respond_eq_answered he]

/-! ## The tests of WRITE CHAIN (R78) -/

section

variable {n : Byte} {definition : List Byte} (hlen : definition.length = 16)

include hlen

theorem validWriteChain_eq :
    validWriteChain (n :: definition) = checked true
      ((indexOf Config.chains n).bind fun number => (parseChain definition).map fun d => (number, d)) := by
  rw [validWriteChain, List.length_cons, hlen]
  refine congrArg (checked true) ?_
  rw [List.getD_cons_zero, List.drop_one, List.tail_cons]
  cases indexOf Config.chains n <;> cases parseChain definition <;> rfl

theorem validWriteChain_ok {number : ChainId} {d : ChainDef} (hn : indexOf Config.chains n = some number)
    (hd : parseChain definition = some d) : validWriteChain (n :: definition) = .ok (number, d) := by
  rw [validWriteChain_eq hlen, hn, hd]
  rfl

theorem validWriteChain_badRange (h : indexOf Config.chains n = none ∨ parseChain definition = none) :
    validWriteChain (n :: definition) = .error .badRange := by
  rw [validWriteChain_eq hlen]
  rcases h with h | h <;> rw [h]
  · rfl
  · cases indexOf Config.chains n <;> rfl

end

/-! ## The tests of WRITE MAP (R94) -/

/-- Items read one by one are read together. -/
theorem parseAll_map_eq {α β γ : Type} {f : α → Option β} {item : γ → α} {value : γ → β}
    (h : ∀ x, f (item x) = some (value x)) (l : List γ) : parseAll f (l.map item) = some (l.map value) := by
  induction l with
  | nil => rfl
  | cons x xs ih => simp [parseAll, h, ih]

/-- A list of which every item can be read is read. -/
theorem exists_parseAll_eq_some {α β : Type} {f : α → Option β} {l : List α} (h : ∀ a ∈ l, f a ≠ none) :
    ∃ m, parseAll f l = some m := by
  induction l with
  | nil => exact ⟨[], rfl⟩
  | cons a as ih =>
    obtain ⟨y, hy⟩ := Option.ne_none_iff_exists'.1 (h a List.mem_cons_self)
    obtain ⟨ys, hys⟩ := ih fun b hb => h b (List.mem_cons_of_mem a hb)
    exact ⟨y :: ys, by simp [parseAll, hy, hys]⟩

/-- Whole items behind the fixed bytes of the Parameters have an accepted Length, and are the items that are read (R157). -/
theorem listParams_items {size most : Nat} (hsize : 0 < size) (fixed : List Byte) {items : List (List Byte)}
    (h1 : 1 ≤ items.length) (hmost : items.length ≤ most) (hsizes : ∀ x ∈ items, x.length = size) :
    listLengthOk fixed.length size most (fixed ++ items.flatten).length = true
      ∧ ((fixed ++ items.flatten).length - fixed.length) / size = items.length
      ∧ chunks size items.length ((fixed ++ items.flatten).drop fixed.length) = items := by
  have hflat : items.flatten.length = size * items.length := by
    rw [List.length_flatten, List.map_congr_left hsizes, List.map_const', List.sum_replicate, smul_eq_mul, Nat.mul_comm]
  rw [List.length_append, hflat, Nat.add_sub_cancel_left, Nat.mul_div_cancel_left _ hsize, List.drop_left]
  exact ⟨listLengthOk_items hsize h1 hmost, rfl, chunks_flatten size items hsizes⟩

section

variable {m start : Byte} {items : List (List Byte)} (h1 : 1 ≤ items.length) (h64 : items.length ≤ 64)
  (h2 : ∀ x ∈ items, x.length = 2)

include h1 h64 h2

theorem validWriteMap_eq :
    validWriteMap (m :: start :: items.flatten) = checked true
      ((indexOf Config.maps m).bind fun number => (parseAll parseMapEntry items).bind fun entries =>
        if start.toNat + items.length ≤ 256 then some (number, start.toNat, entries) else none) := by
  obtain ⟨hok, hcount, hitems⟩ := listParams_items (by decide) [m, start] h1 h64 h2
  have hok : listLengthOk 2 2 64 (m :: start :: items.flatten).length = true := hok
  have hcount : ((m :: start :: items.flatten).length - 2) / 2 = items.length := hcount
  have hitems : chunks 2 items.length ((m :: start :: items.flatten).drop 2) = items := hitems
  rw [validWriteMap, hok, hcount, hitems, List.getD_cons_zero, List.getD_cons_succ, List.getD_cons_zero]
  refine congrArg (checked true) ?_
  cases indexOf Config.maps m <;> cases parseAll parseMapEntry items <;> rfl

theorem validWriteMap_ok {number : Fin Config.maps} {entries : List MapEntry} (hm : indexOf Config.maps m = some number)
    (hend : start.toNat + items.length ≤ 256) (hentries : parseAll parseMapEntry items = some entries) :
    validWriteMap (m :: start :: items.flatten) = .ok (number, start.toNat, entries) := by
  rw [validWriteMap_eq h1 h64 h2, hm, hentries, Option.bind_some, Option.bind_some, if_pos hend, checked_some]

theorem validWriteMap_badRange
    (h : indexOf Config.maps m = none ∨ 256 < start.toNat + items.length ∨ parseAll parseMapEntry items = none) :
    validWriteMap (m :: start :: items.flatten) = .error .badRange := by
  rw [validWriteMap_eq h1 h64 h2]
  rcases h with h | h | h
  · rw [h]
    rfl
  · simp only [if_neg (Nat.not_le.2 h)]
    cases indexOf Config.maps m <;> cases parseAll parseMapEntry items <;> rfl
  · rw [h]
    cases indexOf Config.maps m <;> rfl

end

/-- The entries are read back from their bytes, whatever the second byte of a DROP is (R172). -/
theorem validWriteMap_entries {m : Fin 8} {start : Byte} {entries : List (MapEntry × Byte)} (h1 : 1 ≤ entries.length)
    (h64 : entries.length ≤ 64) (hend : start.toNat + entries.length ≤ 256) :
    validWriteMap (BitVec.ofNat 8 m.val :: start :: entries.flatMap fun e => mapEntryBytes e.2 e.1) =
      .ok (m, start.toNat, entries.map Prod.fst) := by
  have hsizes : ∀ x ∈ entries.map fun e => mapEntryBytes e.2 e.1, x.length = 2 :=
    List.forall_mem_map.2 fun e _ => mapEntryBytes_length e.2 e.1
  rw [List.flatMap_def]
  exact validWriteMap_ok (by simpa using h1) (by simpa using h64) hsizes ((indexOf_eq_some_iff (by decide)).2 rfl)
    (by simpa using hend) (parseAll_map_eq (value := Prod.fst) (fun e => parseMapEntry_mapEntryBytes e.2 e.1) entries)

/-! ## The writers executed (R77, R78, R94, R129) -/

section

variable {s : State} {r : Request} {rest : List Request}

theorem exec_writeChain (h : s.Executes r rest 0x12#8) :
    exec .writeChain s = .next (answerWriter (validWriteChain r.params) writeChainTo r { s with requestFifo := rest }) :=
  exec_of_executes (act := fun r t => answerWriter (validWriteChain r.params) writeChainTo r t) h
    (by rw [rowOf, h.command_eq]; rfl) rfl

theorem exec_writeMap (h : s.Executes r rest 0x14#8) :
    exec .writeMap s = .next (answerWriter (validWriteMap r.params) writeMapTo r { s with requestFifo := rest }) :=
  exec_of_executes (act := fun r t => answerWriter (validWriteMap r.params) writeMapTo r t) h
    (by rw [rowOf, h.command_eq]; rfl) rfl

theorem exec_setDefaultVerdict (h : s.Executes r rest 0x16#8) :
    exec .setDefaultVerdict s =
      .next (answerWriter (validSetDefaultVerdict r.params) writeDefaultTo r { s with requestFifo := rest }) :=
  exec_of_executes (act := fun r t => answerWriter (validSetDefaultVerdict r.params) writeDefaultTo r t) h
    (by rw [rowOf, h.command_eq]; rfl) rfl

theorem exec_copyBank (h : s.Executes r rest 0x18#8) :
    exec .copyBank s = .next (beginLong (.copying r 0) r { s with requestFifo := rest }) :=
  exec_of_executes (act := fun r t => beginLong (.copying r 0) r t) h
    (by rw [rowOf, h.command_eq]; rfl) rfl

theorem exec_clearStaging (h : s.Executes r rest 0x19#8) :
    exec .clearStaging s = .next (beginLong (.clearing r 0) r { s with requestFifo := rest }) :=
  exec_of_executes (act := fun r t => beginLong (.clearing r 0) r t) h
    (by rw [rowOf, h.command_eq]; rfl) rfl

end

/-- A response leaves the staging bank as it was written. -/
theorem State.stagingBank_answered_setStaging (s : State) (b : Bank) (rest : List Request) (p : Response) :
    ((s.setStaging b).answered rest p).stagingBank = b :=
  State.stagingBank_setStaging s b

theorem validSetDefaultVerdict_eq {ps : List Byte} (h : ps.length = 5) :
    validSetDefaultVerdict ps = checked true (parseVerdict ps) := by
  rw [validSetDefaultVerdict, h]
  rfl

/-- Settles O41: the Parameters of each writer read back, and the table that it writes. -/
theorem otherWritersWriteStaging : Obligations.OtherWritersWriteStaging := by
  intro s r rest hswap
  refine ⟨fun n d beyond h hwf hd hlen hparams => ?_, fun n others h hlen hparams => ?_,
    fun m start entries h h1 h64 hend hparams => ?_, fun v h hparams => ?_⟩
  · have hvalid := validWriteChain_ok (chainBytes_length hlen) ((indexOf_eq_some_iff (by decide)).2 rfl)
      (parseChain_chainBytes hwf hd hlen) (number := n)
    rw [exec_writeChain h, hparams, answerWriter_writes rest writeChainTo h.engine_idle hvalid hswap]
    rfl
  · have hvalid := validWriteChain_ok (by rw [List.length_cons, hlen]) ((indexOf_eq_some_iff (by decide)).2 rfl)
      (parseChain_zero others) (number := n)
    rw [exec_writeChain h, hparams, answerWriter_writes rest writeChainTo h.engine_idle hvalid hswap]
    rfl
  · have hvalid : validWriteMap r.params = .ok (m, start.toNat, entries.map Prod.fst) :=
      hparams ▸ validWriteMap_entries h1 h64 hend
    have hmap : ((s.setStaging (writeMapTo (m, start.toNat, entries.map Prod.fst) s.stagingBank)).answered rest
        (r.reply .ok [])).stagingBank.maps[m] = writeAt s.stagingBank.maps[m] start.toNat (entries.map Prod.fst) := by
      rw [State.stagingBank_answered_setStaging, writeMapTo, Vector_getElem_set_fin, if_pos rfl]
    refine ⟨_, (exec_writeMap h).trans (congrArg _ (answerWriter_writes rest writeMapTo h.engine_idle hvalid hswap)), ?_,
      fun k => ?_⟩
    · rw [hmap]
      rfl
    · rw [hmap]
      exact getElem_writeAt _ _ _ k.val k.isLt
  · have hvalid : validSetDefaultVerdict r.params = .ok v := by
      rw [hparams, validSetDefaultVerdict_eq rfl, (parseVerdict_eq_some_iff rfl).2 rfl, checked_some]
    rw [exec_setDefaultVerdict h, answerWriter_writes rest writeDefaultTo h.engine_idle hvalid hswap]
    rfl

/-- Settles O42: the test of the range that fails, or every test passed while a swap is armed. -/
theorem writersRefusedByRangeOrFreeze : Obligations.WritersRefusedByRangeOrFreeze := by
  intro s r rest
  refine ⟨fun n definition h hlen hparams => ⟨fun hbad => ?_, fun hn hd hswap => ?_⟩,
    fun m start items h h1 h64 h2 hparams => ⟨fun hbad => ?_, fun hm hend hforms hswap => ?_⟩,
    fun h hlen => ⟨fun hnone => ?_, fun hsome hswap => ?_⟩, fun hswap hparams => ⟨fun h => ?_, fun h => ?_⟩⟩
  · have hvalid := validWriteChain_badRange hlen (hbad.imp_left fun hn => indexOf_eq_none hn)
    rw [exec_writeChain h, answerWriter, hparams, answerChecked_refused rest h.engine_idle hvalid]
  · obtain ⟨d, hd⟩ := Option.ne_none_iff_exists'.1 hd
    have hvalid := validWriteChain_ok hlen (indexOf_eq_some (Nat.lt_succ_of_le hn)) hd
    rw [exec_writeChain h, hparams, answerWriter_frozen rest writeChainTo h.engine_idle hvalid hswap]
  · have hbad : indexOf Config.maps m = none ∨ 256 < start.toNat + items.length ∨ parseAll parseMapEntry items = none := by
      refine hbad.imp (fun hm => indexOf_eq_none hm) (Or.imp_right fun ⟨x, hx, hform⟩ => ?_)
      exact parseAll_eq_none items ⟨x, hx, (parseMapEntry_eq_none_iff (h2 x hx)).2 hform⟩
    rw [exec_writeMap h, answerWriter, hparams,
      answerChecked_refused rest h.engine_idle (validWriteMap_badRange h1 h64 h2 hbad)]
  · obtain ⟨entries, hentries⟩ := exists_parseAll_eq_some (f := parseMapEntry) (l := items) fun x hx hnone => by
      obtain ⟨hout, hdrop⟩ := (parseMapEntry_eq_none_iff (h2 x hx)).1 hnone
      exact (hforms x hx).elim hout hdrop
    have hvalid := validWriteMap_ok h1 h64 h2 (indexOf_eq_some (Nat.lt_succ_of_le hm)) hend hentries
    rw [exec_writeMap h, hparams, answerWriter_frozen rest writeMapTo h.engine_idle hvalid hswap]
  · have hvalid : validSetDefaultVerdict r.params = .error .badRange := by
      rw [validSetDefaultVerdict_eq hlen, hnone, checked_badRange]
    rw [exec_setDefaultVerdict h, answerWriter, answerChecked_refused rest h.engine_idle hvalid]
  · obtain ⟨v, hv⟩ := Option.ne_none_iff_exists'.1 hsome
    have hvalid : validSetDefaultVerdict r.params = .ok v := by rw [validSetDefaultVerdict_eq hlen, hv, checked_some]
    rw [exec_setDefaultVerdict h, answerWriter_frozen rest writeDefaultTo h.engine_idle hvalid hswap]
  · rw [exec_copyBank h, beginLong_frozen rest _ h.engine_idle hparams hswap]
  · rw [exec_clearStaging h, beginLong_frozen rest _ h.engine_idle hparams hswap]

/-! ## The readers of either bank (R92, R94, R125, R128, R129) -/

theorem parseRole_known {role : Byte} (h : role = 0x00#8 ∨ role = 0x01#8) :
    parseRole role = some (decide (role = 0x00#8)) := by
  rcases h with rfl | rfl <;> rfl

theorem parseRole_unknown {role : Byte} (h : ¬ (role = 0x00#8 ∨ role = 0x01#8)) : parseRole role = none := by
  rw [not_or] at h
  rw [parseRole, if_neg h.1, if_neg h.2]

theorem State.roleBank_decide (s : State) (role : Byte) :
    s.roleBank (decide (role = 0x00#8)) = if role = 0x00#8 then s.activeBank else s.stagingBank := by
  simp only [State.roleBank, decide_eq_true_eq]

section

variable {role m n start count : Byte}

theorem validReadRules_ok (hrole : role = 0x00#8 ∨ role = 0x01#8)
    (hrange : 1 ≤ count.toNat ∧ count.toNat ≤ 8 ∧ start.toNat + count.toNat ≤ 96) :
    validReadRules [role, start, count] = .ok (decide (role = 0x00#8), start.toNat, count.toNat) := by
  refine (checked_ok_iff ..).2 ⟨rfl, ?_⟩
  rw [List.getD_cons_zero, parseRole_known hrole]
  exact if_pos hrange

theorem validReadRules_badRange (h : ¬ ((role = 0x00#8 ∨ role = 0x01#8)
    ∧ 1 ≤ count.toNat ∧ count.toNat ≤ 8 ∧ start.toNat + count.toNat ≤ 96)) :
    validReadRules [role, start, count] = .error .badRange := by
  refine (congrArg (checked true) ?_).trans checked_badRange
  rw [List.getD_cons_zero]
  by_cases hrole : role = 0x00#8 ∨ role = 0x01#8
  · rw [parseRole_known hrole]
    exact if_neg fun hrange => h ⟨hrole, hrange⟩
  · rw [parseRole_unknown hrole]

theorem validReadChain_ok (hrole : role = 0x00#8 ∨ role = 0x01#8) (hn : n.toNat < 16) :
    validReadChain [role, n] = .ok (decide (role = 0x00#8), ⟨n.toNat, hn⟩) := by
  have hindex : indexOf Config.chains n = some ⟨n.toNat, hn⟩ := indexOf_eq_some hn
  simp [validReadChain, parseRole_known hrole, hindex]

theorem validReadChain_badRange (h : ¬ ((role = 0x00#8 ∨ role = 0x01#8) ∧ n.toNat < 16)) :
    validReadChain [role, n] = .error .badRange := by
  by_cases hrole : role = 0x00#8 ∨ role = 0x01#8
  · have hindex : indexOf Config.chains n = none := indexOf_eq_none (Nat.not_lt.1 fun hn => h ⟨hrole, hn⟩)
    simp [validReadChain, hindex]
  · simp [validReadChain, parseRole_unknown hrole]

theorem validReadMap_ok (hrole : role = 0x00#8 ∨ role = 0x01#8) (hm : m.toNat < 8)
    (hrange : 1 ≤ count.toNat ∧ count.toNat ≤ 64 ∧ start.toNat + count.toNat ≤ 256) :
    validReadMap [role, m, start, count] =
      .ok (decide (role = 0x00#8), ⟨m.toNat, hm⟩, start.toNat, count.toNat) := by
  have hindex : indexOf Config.maps m = some ⟨m.toNat, hm⟩ := indexOf_eq_some hm
  simp [validReadMap, parseRole_known hrole, hindex, hrange]

theorem validReadMap_badRange (h : ¬ (m.toNat < 8 ∧ (role = 0x00#8 ∨ role = 0x01#8)
    ∧ 1 ≤ count.toNat ∧ count.toNat ≤ 64 ∧ start.toNat + count.toNat ≤ 256)) :
    validReadMap [role, m, start, count] = .error .badRange := by
  by_cases hrole : role = 0x00#8 ∨ role = 0x01#8
  · by_cases hm : m.toNat < 8
    · have hindex : indexOf Config.maps m = some ⟨m.toNat, hm⟩ := indexOf_eq_some hm
      have hrange : ¬ (1 ≤ count.toNat ∧ count.toNat ≤ 64 ∧ start.toNat + count.toNat ≤ 256) :=
        fun hr => h ⟨hm, hrole, hr⟩
      simp [validReadMap, parseRole_known hrole, hindex, hrange]
    · have hindex : indexOf Config.maps m = none := indexOf_eq_none (Nat.not_lt.1 hm)
      simp [validReadMap, hindex]
  · simp [validReadMap, parseRole_unknown hrole]

end

section

variable {s : State} {r : Request} {rest : List Request}

theorem exec_readRules (h : s.Executes r rest 0x11#8) :
    exec .readRules s = .next (answerReadRules r { s with requestFifo := rest }) :=
  exec_of_executes h (by rw [rowOf, h.command_eq]; rfl) rfl

theorem exec_readChain (h : s.Executes r rest 0x13#8) :
    exec .readChain s = .next (answerReadChain r { s with requestFifo := rest }) :=
  exec_of_executes h (by rw [rowOf, h.command_eq]; rfl) rfl

theorem exec_readMap (h : s.Executes r rest 0x15#8) :
    exec .readMap s = .next (answerReadMap r { s with requestFifo := rest }) :=
  exec_of_executes h (by rw [rowOf, h.command_eq]; rfl) rfl

theorem exec_readDefaultVerdict (h : s.Executes r rest 0x17#8) :
    exec .readDefaultVerdict s = .next (answerReadDefault r { s with requestFifo := rest }) :=
  exec_of_executes h (by rw [rowOf, h.command_eq]; rfl) rfl

/-- A reader that passes its tests answers with the bytes it finds, and changes nothing else. -/
theorem answerChecked_read {α : Type} {v : Except Status α} {a : α} (he : s.engine = .idle) (hv : v = .ok a)
    (bytes : α → List Byte) :
    answerChecked v r { s with requestFifo := rest } (fun q => ({ s with requestFifo := rest } : State).respond r .ok (bytes q))
      = s.answered rest (r.reply .ok (bytes a)) := by
  rw [hv, answerChecked_ok, State.respond_eq_answered he]

end

theorem RuleEntry.bytes_eq_ruleBytes : RuleEntry.bytes = ruleBytes := funext RuleEntry.bytes_eq

theorem MapEntry.bytes_eq_mapEntryBytes : MapEntry.bytes = mapEntryBytes 0x00#8 := funext MapEntry.bytes_eq

/-- Settles O43: the items that each reader returns from the bank of its selector, and the refusal of a range. -/
theorem readersReturnEntriesByRole : Obligations.ReadersReturnEntriesByRole := by
  intro s r rest role b known refused returns storedChain
  have hbank : s.roleBank (decide (role = 0x00#8)) = b := s.roleBank_decide role
  clear_value b
  subst hbank
  refine ⟨fun start count h hparams => ?_, fun n h hparams => ?_, fun m start count h hparams => ?_, fun h hparams => ?_⟩
  · rw [exec_readRules h, answerReadRules, hparams]
    by_cases hall : known ∧ 1 ≤ count.toNat ∧ count.toNat ≤ 8 ∧ start.toNat + count.toNat ≤ 96
    · obtain ⟨hrole, hrange⟩ := hall
      rw [if_pos ⟨hrole, hrange⟩, ← RuleEntry.bytes_eq_ruleBytes]
      exact congrArg _ (answerChecked_read h.engine_idle (validReadRules_ok hrole hrange) _)
    · rw [if_neg hall]
      exact congrArg _ (answerChecked_refused rest h.engine_idle (validReadRules_badRange hall) _)
  · rw [exec_readChain h, answerReadChain, hparams]
    by_cases hall : known ∧ n.toNat < 16
    · obtain ⟨hrole, hn⟩ := hall
      rw [dif_pos ⟨hrole, hn⟩]
      simp only [storedChain, ← ChainDef.bytes_eq]
      exact congrArg _ (answerChecked_read h.engine_idle (validReadChain_ok hrole hn) _)
    · rw [dif_neg hall]
      exact congrArg _ (answerChecked_refused rest h.engine_idle (validReadChain_badRange hall) _)
  · rw [exec_readMap h, answerReadMap, hparams, ← MapEntry.bytes_eq_mapEntryBytes]
    by_cases hm : m.toNat < 8
    · rw [dif_pos hm]
      by_cases hall : known ∧ 1 ≤ count.toNat ∧ count.toNat ≤ 64 ∧ start.toNat + count.toNat ≤ 256
      · obtain ⟨hrole, hrange⟩ := hall
        rw [if_pos ⟨hrole, hrange⟩]
        exact congrArg _ (answerChecked_read h.engine_idle (validReadMap_ok hrole hm hrange) _)
      · rw [if_neg hall]
        exact congrArg _ (answerChecked_refused rest h.engine_idle (validReadMap_badRange fun hb => hall hb.2) _)
    · rw [dif_neg hm]
      exact congrArg _ (answerChecked_refused rest h.engine_idle (validReadMap_badRange fun hb => hm hb.1) _)
  · rw [exec_readDefaultVerdict h, answerReadDefault, hparams]
    by_cases hrole : known
    · have hvalid : validReadDefaultVerdict [role] = .ok (decide (role = 0x00#8)) :=
        (checked_ok_iff ..).2 ⟨rfl, parseRole_known hrole⟩
      rw [if_pos hrole, ← Verdict.bytes_eq]
      exact congrArg _ (answerChecked_read h.engine_idle hvalid _)
    · have hvalid : validReadDefaultVerdict [role] = .error .badRange := congrArg (checked true) (parseRole_unknown hrole)
      rw [if_neg hrole]
      exact congrArg _ (answerChecked_refused rest h.engine_idle hvalid _)

end Sys2Proof.Machine
end

section
/-! The Limits of the Forward Queues (R103) and the Notice Mask (R161): one byte out of range refuses the whole request. -/

-- One proof after another: side by side, each waiting thread takes a stack of its own.
set_option Elab.async false

namespace Sys2Proof.Machine

/-! ## The tests of SET QUEUE LIMITS and SET NOTICE MASK (R103, R161) -/

/-- The range of a Limit (R103). -/
def limitInRange (b : Byte) : Prop := 1 ≤ b.toNat ∧ b.toNat ≤ 64

theorem parseLimit_ok {b : Byte} (h : limitInRange b) : parseLimit b = some b.toNat := if_pos h

theorem parseLimit_eq_none {b : Byte} (h : ¬ limitInRange b) : parseLimit b = none := if_neg h

theorem parseFlag_eq_none {b : Byte} (h0 : b ≠ 0x00#8) (h1 : b ≠ 0x01#8) : parseFlag b = none := by
  rw [parseFlag, if_neg h0, if_neg h1]

/-- A list of which every item is read to its value is read to the list of the values. -/
theorem parseAll_eq_some_map {α β : Type} {f : α → Option β} {g : α → β} {l : List α} (h : ∀ a ∈ l, f a = some (g a)) :
    parseAll f l = some (l.map g) := by
  induction l with
  | nil => rfl
  | cons a as ih =>
    obtain ⟨ha, has⟩ := List.forall_mem_cons.1 h
    rw [parseAll, ha, ih has, List.map_cons]

section

variable {ps : List Byte}

theorem validQueueLimits_ok (hlen : ps.length = 4) (h : ∀ b ∈ ps, limitInRange b) :
    validQueueLimits ps = .ok (ps.map BitVec.toNat) := by
  rw [validQueueLimits, hlen, parseAll_eq_some_map fun b hb => parseLimit_ok (h b hb)]
  rfl

theorem validQueueLimits_badRange (hlen : ps.length = 4) (h : ¬ ∀ b ∈ ps, limitInRange b) :
    validQueueLimits ps = .error .badRange := by
  obtain ⟨b, hb, hout⟩ : ∃ b ∈ ps, ¬ limitInRange b := by simpa only [not_forall, exists_prop] using h
  rw [validQueueLimits, hlen, parseAll_eq_none ps ⟨b, hb, parseLimit_eq_none hout⟩]
  rfl

/-- The eight enables of a mask are read back from their bytes (R161). -/
theorem validNoticeMask_ok (m : NoticeMask)
    (h : ps = [m.lineChange, m.late, m.silent, m.revived, m.chainDone, m.swapDone, m.queueDrop, m.poolDrop].map bitByte) :
    validNoticeMask ps = .ok m := by
  rw [validNoticeMask, (parseAll_eq_some_iff fun _ _ => parseFlag_eq_some_iff).2 h.symm, h]
  rfl

theorem validNoticeMask_badRange (hlen : ps.length = 8) (h : ∃ b ∈ ps, b ≠ 0x00#8 ∧ b ≠ 0x01#8) :
    validNoticeMask ps = .error .badRange := by
  obtain ⟨b, hb, h0, h1⟩ := h
  rw [validNoticeMask, hlen, parseAll_eq_none ps ⟨b, hb, parseFlag_eq_none h0 h1⟩]
  rfl

end

/-! ## The two requests executed (R103, R161) -/

/-- Four Limits replace the Limit of every queue and leave its entries (R103). -/
theorem setLimits_four (queues : Vector ForwardQueue Config.queues) (a b c d : Nat) :
    setLimits queues [a, b, c, d] =
      #v[⟨queues[(0 : QueueId)].slots, a⟩, ⟨queues[(1 : QueueId)].slots, b⟩,
        ⟨queues[(2 : QueueId)].slots, c⟩, ⟨queues[(3 : QueueId)].slots, d⟩] := rfl

section

variable {s : State} {r : Request} {rest : List Request}

theorem exec_setQueueLimits (h : s.Executes r rest 0x20#8) :
    exec .setQueueLimits s = .next (answerQueueLimits r { s with requestFifo := rest }) :=
  exec_of_executes h (by rw [rowOf, h.command_eq]; rfl) rfl

theorem exec_setNoticeMask (h : s.Executes r rest 0x21#8) :
    exec .setNoticeMask s = .next (answerNoticeMask r { s with requestFifo := rest }) :=
  exec_of_executes h (by rw [rowOf, h.command_eq]; rfl) rfl

theorem answerQueueLimits_writes {limits : List Nat} (he : s.engine = .idle) (hv : validQueueLimits r.params = .ok limits) :
    answerQueueLimits r { s with requestFifo := rest } =
      ({ s with queues := setLimits s.queues limits } : State).answered rest (r.reply .ok []) := by
  rw [answerQueueLimits, hv, answerChecked_ok]
  exact State.respond_eq_answered (s := { s with queues := setLimits s.queues limits }) he r rest .ok []

theorem answerNoticeMask_writes {m : NoticeMask} (he : s.engine = .idle) (hv : validNoticeMask r.params = .ok m) :
    answerNoticeMask r { s with requestFifo := rest } =
      ({ s with noticeMask := m } : State).answered rest (r.reply .ok []) := by
  rw [answerNoticeMask, hv, answerChecked_ok]
  exact State.respond_eq_answered (s := { s with noticeMask := m }) he r rest .ok []

end

/-- Settles O49: every byte is in range and the whole setting is written, or one is not and the request is refused. -/
theorem limitsAndMaskWrittenWhole : Obligations.LimitsAndMaskWrittenWhole := by
  intro s r rest
  refine ⟨fun a b c d h hparams => ?_, fun h => ⟨fun m hparams => ?_, fun hlen hbad => ?_⟩⟩
  · intro ok
    have hlen : r.params.length = 4 := by rw [hparams]; rfl
    have hok : (ok a ∧ ok b ∧ ok c ∧ ok d) ↔ ∀ x ∈ r.params, limitInRange x := by
      simp [hparams, ok, limitInRange]
    rw [exec_setQueueLimits h, hok]
    refine ⟨fun hall => ?_, fun hsome => ?_⟩
    · rw [answerQueueLimits_writes h.engine_idle (validQueueLimits_ok hlen hall), hparams]
      simp only [List.map_cons, List.map_nil, setLimits_four]
    · rw [answerQueueLimits, answerChecked_refused rest h.engine_idle (validQueueLimits_badRange hlen hsome)]
  · rw [exec_setNoticeMask h, answerNoticeMask_writes h.engine_idle (validNoticeMask_ok m hparams)]
  · rw [exec_setNoticeMask h, answerNoticeMask,
      answerChecked_refused rest h.engine_idle (validNoticeMask_badRange hlen hbad)]

end Sys2Proof.Machine
end

section
/-! The Silence Watch (Section 7): a tick claim by the phase and the count it finds (R110 to R113), the rows that take it, a
heartbeat (R114 to R117), and ACK WATCH (R120). -/

-- One proof after another: side by side, each waiting thread takes a stack of its own.
set_option Elab.async false

namespace Sys2Proof.Machine

/-! ## A tick claim by the phase and the count it finds (R110 to R113) -/

theorem Context.silenceReached_iff (c : Context) :
    c.silenceReached = true ↔ (c.watchPhase = .running ∨ c.watchPhase = .overdue) ∧ c.gapCount + 1 = 60000 := by
  rw [Context.silenceReached, Bool.and_eq_true, WatchPhase.ticks_iff, decide_eq_true_iff]
  rfl

section

variable {c : Context} (ch : Channel)

theorem tickLimit_of_reached {limit : Nat} (hp : c.watchPhase = .running) (hl : c.watchLimit = some limit)
    (habove : limit < c.gapCount + 1) : tickLimit ch c = limitExpiry ch limit { c with gapCount := c.gapCount + 1 } := by
  rw [tickLimit, if_pos (c.limitReached_iff.2 ⟨hp, limit, hl, habove⟩), hl]
  rfl

theorem tickLimit_of_not_reached (h : ¬ c.limitReached = true) :
    tickLimit ch c = ({ c with gapCount := c.gapCount + 1 }, []) := if_neg h

theorem Context.not_limitReached_of_overdue (hp : c.watchPhase = .overdue) : ¬ c.limitReached = true := by
  rw [c.limitReached_iff, hp]
  exact fun h => nomatch h.1

theorem Context.not_limitReached_of_within {limit : Nat} (hl : c.watchLimit = some limit) (hle : c.gapCount + 1 ≤ limit) :
    ¬ c.limitReached = true := by
  rw [c.limitReached_iff]
  rintro ⟨-, limit', hl', hlt⟩
  cases hl.symm.trans hl'
  omega

/-- A claim that finds the watch OFF, IDLE or SILENT changes nothing (R110). -/
theorem tickClaim_of_still (hp : c.watchPhase = .off ∨ c.watchPhase = .idle ∨ c.watchPhase = .silent) :
    tickClaim ch c = (c, []) := by
  refine if_neg ?_
  rw [WatchPhase.ticks_iff]
  rcases hp with hp | hp | hp <;> simp [hp]

variable (hp : c.watchPhase = .running ∨ c.watchPhase = .overdue)

include hp

theorem tickClaim_below_silence (hcount : c.gapCount + 1 ≠ 60000) : tickClaim ch c = tickLimit ch c := by
  rw [tickClaim, if_pos ((WatchPhase.ticks_iff _).2 hp), if_neg fun h => hcount (c.silenceReached_iff.1 h).2]

theorem tickClaim_at_silence (hcount : c.gapCount + 1 = 60000) :
    tickClaim ch c =
      ((silenceExpiry ch (tickLimit ch c).1).1, (tickLimit ch c).2 ++ (silenceExpiry ch (tickLimit ch c).1).2) := by
  rw [tickClaim, if_pos ((WatchPhase.ticks_iff _).2 hp), if_pos (c.silenceReached_iff.2 ⟨hp, hcount⟩)]

end

/-! ## The rows that take a tick claim (R110 to R112, log entry 6) -/

section

variable {s : State} {ch : Channel} (h : s.resetHeld = false)

include h

theorem exec_watchTick_of_not_mem (hmem : ch ∉ s.watchClaims) : exec (.watchTick ch) s = .next s :=
  (live_of_released _ h).trans (congrArg _ (takeTickClaim_of_not_mem hmem))

theorem exec_watchTick_of_mem (hmem : ch ∈ s.watchClaims) {c : Context} {ns : List Notice}
    (hclaim : tickClaim ch (s.context ch) = (c, ns)) :
    exec (.watchTick ch) s = .next (({ s with
      watchClaims := s.watchClaims.erase ch, contexts := s.contexts.set ch c } : State).raiseAll ns) := by
  refine (live_of_released _ h).trans (congrArg _ ?_)
  rw [takeTickClaim_of_mem hmem, hclaim]

/-- LIMIT_EXPIRY takes the claim that brings a limit expiry as WATCH_TICK does. -/
theorem exec_limitExpiry_of_reached (hr : (s.context ch).limitReached = true) :
    exec (.limitExpiry ch) s = exec (.watchTick ch) s := by
  refine (live_of_released _ h).trans (Eq.trans ?_ (live_of_released _ h).symm)
  rw [if_pos hr]

theorem exec_limitExpiry_of_not_reached (hr : ¬ (s.context ch).limitReached = true) :
    exec (.limitExpiry ch) s = .next s :=
  (live_of_released _ h).trans (congrArg _ (if_neg hr))

/-- SILENCE_EXPIRY takes the claim that brings a silence expiry as WATCH_TICK does. -/
theorem exec_silenceExpiry_of_reached (hr : (s.context ch).silenceReached = true) :
    exec (.silenceExpiry ch) s = exec (.watchTick ch) s := by
  refine (live_of_released _ h).trans (Eq.trans ?_ (live_of_released _ h).symm)
  rw [if_pos hr]

end

/-- Settles O19: a claim that does not count, one that counts, and one that counts above the Watch Limit. -/
theorem tickClaimCountsAndLimitExpires : Obligations.TickClaimCountsAndLimitExpires := by
  constructor
  · intro s ch h c t raised
    refine ⟨exec_watchTick_of_not_mem h, fun hmem => ⟨fun hp => ?_, fun limit hp hl hle _ => ?_, fun hp hcount => ?_⟩⟩
    · rw [exec_watchTick_of_mem h hmem (tickClaim_of_still ch hp)]
      exact congrArg _ (State.setContext_context t ch)
    · have hclaim := (tickClaim_below_silence ch (.inl hp) (by omega)).trans
        (tickLimit_of_not_reached ch (Context.not_limitReached_of_within hl hle))
      exact exec_watchTick_of_mem h hmem hclaim
    · have hclaim := (tickClaim_below_silence ch (.inr hp) (by omega)).trans
        (tickLimit_of_not_reached ch (Context.not_limitReached_of_overdue hp))
      exact exec_watchTick_of_mem h hmem hclaim
  · intro s ch limit k h hk hmem c hp hl hlt hcount t
    have hrow : exec k s = exec (.watchTick ch) s := by
      rcases hk with rfl | rfl
      · rfl
      · exact exec_limitExpiry_of_reached h (c.limitReached_iff.2 ⟨hp, limit, hl, hlt⟩)
    have hclaim := (tickClaim_below_silence ch (.inl hp) hcount).trans (tickLimit_of_reached ch hp hl hlt)
    rw [hrow, exec_watchTick_of_mem h hmem hclaim]
    exact congrArg _ (State.raiseAll_late t ch limit { c with gapCount := c.gapCount + 1 })

/-! ## A silence expiry (R112, R113) -/

theorem Context.quarantined_eq_self {c : Context} (h : c.state = .quarantined) : c.quarantined = c := by
  rw [Context.quarantined, ← h]

theorem Context.silenceAct_of_not_closed {c : Context} (h : c.state ≠ .closed) :
    c.silenceAct = match c.silenceAction with
      | .none => c
      | .quarantine => c.quarantined
      | .close => c.nowClosed := by
  unfold Context.silenceAct
  cases c.silenceAction with
  | none => rfl
  | quarantine =>
    cases hs : c.state with
    | closed => exact absurd hs h
    | opened => rfl
    | quarantined => exact (Context.quarantined_eq_self hs).symm
  | close => exact Context.close_of_not_closed h

/-- The Silence Action of an expiry: a channel that it closes ends in OFF (R112). -/
theorem silenceExpiry_context {c : Context} (h : c.state ≠ .closed) (ch : Channel) :
    (silenceExpiry ch c).1 = match c.silenceAction with
      | .none => { c with watchPhase := .silent, gapCount := 60000 }
      | .quarantine => { c with watchPhase := .silent, gapCount := 60000, state := .quarantined }
      | .close => c.nowClosed :=
  Context.silenceAct_of_not_closed (c := { c with watchPhase := .silent, gapCount := 60000 }) h

/-- The SILENT notice of a silence expiry: raised when Notify is ON (R46, R112). -/
theorem State.raiseAll_silent (s : State) (ch : Channel) (c : Context) :
    s.raiseAll (silenceExpiry ch c).2 =
      if c.notify = true then s.raise ⟨.silent, BitVec.ofNat 8 ch.val, (silenceByte c.silenceAction).setWidth 32⟩
      else s := by
  rw [← SilenceAction.code_eq]
  unfold silenceExpiry Context.gated
  dsimp only
  split <;> rfl

/-- Settles O20: an OVERDUE channel takes the silence expiry alone, and a RUNNING one behind its limit expiry. -/
theorem silenceExpiryAppliesItsAction : Obligations.SilenceExpiryAppliesItsAction := by
  intro s ch k h hk hmem c silent t report hopen hgap
  have hcount : c.gapCount + 1 = 60000 := by omega
  have hnotClosed : (tickLimit ch c).1.state ≠ .closed := by rwa [(tickLimit_configuration ch c).2]
  have hsilence (hp : c.watchPhase = .running ∨ c.watchPhase = .overdue) :
      exec (.silenceExpiry ch) s = exec (.watchTick ch) s :=
    exec_silenceExpiry_of_reached h (c.silenceReached_iff.2 ⟨hp, hcount⟩)
  refine ⟨fun hp hlimit => ?_, fun hp => exec_limitExpiry_of_not_reached h (Context.not_limitReached_of_overdue hp),
    fun hp hl => ?_⟩
  · have hrow : exec k s = exec (.watchTick ch) s := by
      rcases hk with rfl | rfl | hk
      · rfl
      · exact hsilence (.inr hp)
      · exact absurd hk hlimit
    have hclaim : tickClaim ch c = (silent c, (silenceExpiry ch c).2) := by
      rw [tickClaim_at_silence ch (.inr hp) hcount, silenceExpiry_context hnotClosed,
        tickLimit_of_not_reached ch (Context.not_limitReached_of_overdue hp)]
      rfl
    rw [hrow, exec_watchTick_of_mem h hmem hclaim, State.raiseAll_silent]
  · have hlt : 59999 < c.gapCount + 1 := by omega
    have hrow : exec k s = exec (.watchTick ch) s := by
      rcases hk with rfl | rfl | rfl
      · rfl
      · exact hsilence (.inl hp)
      · exact exec_limitExpiry_of_reached h (c.limitReached_iff.2 ⟨hp, 59999, hl, hlt⟩)
    have hclaim :
        tickClaim ch c = (silent { c with late := true }, (limitExpiry ch 59999 c).2 ++ (silenceExpiry ch c).2) := by
      rw [tickClaim_at_silence ch (.inl hp) hcount, silenceExpiry_context hnotClosed, tickLimit_of_reached ch hp hl hlt]
      rfl
    rw [hrow, exec_watchTick_of_mem h hmem hclaim, State.raiseAll_append, State.raiseAll_late, State.raiseAll_silent]

/-! ## Heartbeats (R114 to R117) -/

/-- The interval ends without a capture while HELD is set, and else with Last Gap captured (R115). -/
theorem Context.captureGap_restartInterval (c : Context) (gap : Nat) :
    (c.captureGap gap).restartInterval = if c.held = true then { c with watchPhase := .running, gapCount := 0 }
      else { c with watchPhase := .running, gapCount := 0, lastGap := some gap, new := true } := by
  unfold Context.captureGap Context.restartInterval
  split <;> rfl

/-- A late interval ends with HELD set, and with Last Gap captured when HELD was clear (R116, R117). -/
theorem Context.captureGap_held_restartInterval (c : Context) (gap : Nat) :
    { c.captureGap gap with held := true }.restartInterval =
      if c.held = true then { c with watchPhase := .running, gapCount := 0 }
      else { c with watchPhase := .running, gapCount := 0, lastGap := some gap, new := true, held := true } := by
  unfold Context.captureGap Context.restartInterval
  split
  · next hheld => rw [← hheld]
  · rfl

/-- The REVIVED notice of a heartbeat in SILENT, in the codes of 11.2 (R117). -/
theorem Context.gated_revivedNotice (c : Context) (ch : Channel) (st : ChannelState) :
    c.gated (revivedNotice ch st) =
      if c.notify = true then [⟨.revived, BitVec.ofNat 8 ch.val, (stateByte st).setWidth 32⟩] else [] := by
  rw [← ChannelState.code_eq]
  rfl

/-- Settles O26: the heartbeat of each phase, and what it captures. -/
theorem heartbeatByPhase : Obligations.HeartbeatByPhase := by
  intro ch st c run
  refine ⟨fun hp => ?_, fun hp => ?_, fun hp => ?_, fun hp => ?_, fun hp => ?_⟩
  all_goals simp only [heartbeat, hp]
  · rfl
  · rw [Context.captureGap_restartInterval]
  · rw [Context.captureGap_held_restartInterval]
  · rw [Context.captureGap_held_restartInterval, Context.gated_revivedNotice]
    rfl

/-! ## ACK WATCH (R120) -/

theorem validAckWatch_ok {f l : Byte} (hf : f.toNat < 128) (hl : l.toNat < 128) (hle : f.toNat ≤ l.toNat) :
    validAckWatch [f, l] = .ok (⟨f.toNat, hf⟩, ⟨l.toNat, hl⟩) :=
  congrArg (checked true) (parseRange_ok hf hl hle)

theorem validAckWatch_badRange {f l : Byte} (h : 127 < f.toNat ∨ 127 < l.toNat ∨ l.toNat < f.toNat) :
    validAckWatch [f, l] = .error .badRange :=
  congrArg (checked true) (parseRange_eq_none h)

/-- The event of the next channel, and the response after the last channel (R120). -/
theorem exec_ackWatchChannel {s : State} {r : Request} {ch : Channel} {left : List Channel} (h : s.resetHeld = false)
    (he : s.engine = .acking r (ch :: left)) :
    exec .ackWatchChannel s = .next (
      let t := s.setContext ch (s.context ch).acknowledge
      if left = [] then t.respond r .ok [] else { t with engine := .acking r left }) := by
  refine (live_of_released _ h).trans (congrArg _ ?_)
  simp only [ackNext, he, List.isEmpty_iff]

/-- Settles O39: the range read or refused, and the event of one channel. -/
theorem ackWatchClearsLateAndHeld : Obligations.AckWatchClearsLateAndHeld := by
  refine ⟨fun s r rest f l h hparams => ?_, fun s r ch left h he => exec_ackWatchChannel h he⟩
  have hexec := exec_of_executes h (by rw [rowOf, h.command_eq]; rfl) (show rowAct .ackWatch = some beginAck from rfl)
  refine ⟨fun hf hl hle => ?_, fun hbad => ?_⟩
  · rw [hexec, beginAck, hparams, validAckWatch_ok hf hl hle, answerChecked_ok, channelRange_eq]
  · rw [hexec, beginAck, hparams, answerChecked_refused rest h.engine_idle (validAckWatch_badRange hbad)]

end Sys2Proof.Machine
end

section
/-! WRITE RULES (R128, R136) and the two long operations that write staging whole (R136 to R139). -/

-- One proof after another: side by side, each waiting thread takes a stack of its own.
set_option Elab.async false

namespace Sys2Proof.Machine

/-! ## The tests of WRITE RULES (R128) -/

section

variable {start : Byte} {items : List (List Byte)} (h1 : 1 ≤ items.length) (h8 : items.length ≤ 8)
  (h24 : ∀ x ∈ items, x.length = 24)

include h1 h8 h24

theorem validWriteRules_eq :
    validWriteRules (start :: items.flatten) = checked true
      (if start.toNat + items.length ≤ 96 then (parseAll parseRule items).map fun entries => (start.toNat, entries)
      else none) := by
  obtain ⟨hok, hcount, hitems⟩ := listParams_items (by decide) [start] h1 h8 h24
  have hok : listLengthOk 1 24 8 (start :: items.flatten).length = true := hok
  have hcount : ((start :: items.flatten).length - 1) / 24 = items.length := hcount
  have hitems : chunks 24 items.length ((start :: items.flatten).drop 1) = items := hitems
  rw [validWriteRules, hok, hcount, hitems, List.getD_cons_zero]

theorem validWriteRules_ok {entries : List RuleEntry} (hend : start.toNat + items.length ≤ 96)
    (hentries : parseAll parseRule items = some entries) :
    validWriteRules (start :: items.flatten) = .ok (start.toNat, entries) := by
  rw [validWriteRules_eq h1 h8 h24, if_pos hend, hentries, Option.map_some, checked_some]

theorem validWriteRules_badRange (h : 96 < start.toNat + items.length ∨ parseAll parseRule items = none) :
    validWriteRules (start :: items.flatten) = .error .badRange := by
  rw [validWriteRules_eq h1 h8 h24]
  rcases h with hend | hnone
  · rw [if_neg (Nat.not_le.2 hend), checked_badRange]
  · rw [hnone, Option.map_none, ite_self, checked_badRange]

end

theorem ruleBytes_length {l : List RuleEntry} : ∀ x ∈ l.map ruleBytes, x.length = 24 :=
  List.forall_mem_map.2 fun _ _ => rfl

/-- Entries within their ranges are read back from their bytes. -/
theorem parseAll_ruleBytes {entries : List RuleEntry} (hwf : ∀ e ∈ entries, e.wf = true) :
    parseAll parseRule (entries.map ruleBytes) = some entries :=
  parseAll_map entries fun e he => (parseRule_eq_some_iff rfl).2 ⟨hwf e he, rfl⟩

theorem exec_writeRules {s : State} {r : Request} {rest : List Request} (h : s.Executes r rest 0x10#8) :
    exec .writeRules s = .next (answerWriter (validWriteRules r.params) writeRulesTo r { s with requestFifo := rest }) :=
  exec_of_executes (act := fun r t => answerWriter (validWriteRules r.params) writeRulesTo r t) h
    (by rw [rowOf, h.command_eq]; rfl) rfl

/-- Settles O40: the entries read back and written from the Start Index on, or the test that refuses them. -/
theorem writeRulesWritesStaging : Obligations.WriteRulesWritesStaging := by
  intro s r rest start h
  refine ⟨fun entries h1 h8 hwf hparams => ?_, fun items h1 h8 h24 hparams hbad => ?_⟩
  · rw [List.flatMap_def] at hparams
    rw [← List.length_map ruleBytes] at h1 h8
    have hlen : (entries.map ruleBytes).length = entries.length := List.length_map ..
    have hok (hend : start.toNat + entries.length ≤ 96) : validWriteRules r.params = .ok (start.toNat, entries) :=
      hparams ▸ validWriteRules_ok h1 h8 ruleBytes_length (hlen ▸ hend) (parseAll_ruleBytes hwf)
    refine ⟨fun hend => ?_, fun hend hswap => ?_, fun hend hswap => ?_⟩
    · have hvalid := validWriteRules_badRange h1 h8 ruleBytes_length (.inl (hlen ▸ hend))
      rw [exec_writeRules h, answerWriter, hparams, answerChecked_refused rest h.engine_idle hvalid]
    · rw [exec_writeRules h, answerWriter_frozen rest writeRulesTo h.engine_idle (hok hend) hswap]
    · have hrules : ((s.setStaging (writeRulesTo (start.toNat, entries) s.stagingBank)).answered rest
          (r.reply .ok [])).stagingBank.rules = writeAt s.stagingBank.rules start.toNat entries := by
        rw [State.stagingBank_answered_setStaging, writeRulesTo]
      refine ⟨_, (exec_writeRules h).trans (congrArg _ (answerWriter_writes rest writeRulesTo h.engine_idle (hok hend) hswap)),
        ?_, fun k => ?_⟩
      · rw [hrules]
        rfl
      · rw [hrules]
        exact getElem_writeAt _ _ _ k.val k.isLt
  · have hvalid := validWriteRules_badRange h1 h8 h24 (start := start) (.inr (parseAll_eq_none items hbad))
    rw [exec_writeRules h, answerWriter, hparams, answerChecked_refused rest h.engine_idle hvalid]

/-! ## The long operations (R136 to R139) -/

theorem SwapState.not_armed {w : SwapState} (h : w = .idle) : ¬ w.armed = true := by
  rw [h]
  decide

/-- A long operation begins with no swap armed (R136, R137). -/
theorem beginLong_begins {s : State} {r : Request} (rest : List Request) (busy : Engine) (hparams : r.params = [])
    (hswap : s.swap = .idle) :
    beginLong busy r { s with requestFifo := rest } = { s with requestFifo := rest, engine := busy } := by
  rw [beginLong, hparams, validEmpty, List.isEmpty_nil, checked_some, answerChecked_ok,
    if_neg (SwapState.not_armed hswap)]

/-- Settles O44: both requests pass their tests and make the engine BUSY. -/
theorem longOperationsBegin : Obligations.LongOperationsBegin := by
  intro s r rest hswap hparams
  refine ⟨fun h => ?_, fun h => ?_⟩
  · rw [exec_copyBank h, beginLong_begins rest _ hparams hswap]
  · rw [exec_clearStaging h, beginLong_begins rest _ hparams hswap]

section

variable {s : State} {r : Request} {e : Nat}

theorem exec_copyBankComplete (h : s.resetHeld = false) (he : s.engine = .copying r e) :
    exec .copyBankComplete s = .next ((s.setStaging s.activeBank).respond r .ok []) := by
  refine (live_of_released _ h).trans (congrArg _ ?_)
  rw [completeCopy, he]

theorem exec_clearStagingComplete (h : s.resetHeld = false) (he : s.engine = .clearing r e) :
    exec .clearStagingComplete s = .next ((s.setStaging Bank.empty).respond r .ok []) := by
  refine (live_of_released _ h).trans (congrArg _ ?_)
  rw [completeClear, he]

end

/-- The completion of a long operation writes a bank and answers, and nothing else. -/
theorem State.respond_setStaging_eq (s : State) (b : Bank) (r : Request) :
    (s.setStaging b).respond r .ok [] = { s with
      bankA := (s.setStaging b).bankA, bankB := (s.setStaging b).bankB, engine := .idle
      responses := s.responses ++ [r.reply .ok []], stored := some (r.reply .ok []) } := by
  unfold State.setStaging
  cases s.active <;> rfl

theorem State.bankA_eq_bankB {s : State} (h : s.stagingBank = s.activeBank) : s.bankA = s.bankB := by
  unfold State.stagingBank State.activeBank at h
  cases ha : s.active <;> rw [ha] at h
  · exact h.symm
  · exact h

/-- Settles O45: the active bank is written to staging. -/
theorem copyBankMakesStagingIdentical : Obligations.CopyBankMakesStagingIdentical := by
  intro s r e h he
  have hstaging := s.stagingBank_setStaging s.activeBank
  have hactive := s.activeBank_setStaging s.activeBank
  exact ⟨_, exec_copyBankComplete h he, s.respond_setStaging_eq _ r, hstaging, hactive,
    State.bankA_eq_bankB (hstaging.trans hactive.symm), s.setStaging_active _, s.setStaging_generation _⟩

/-- Settles O46: the empty bank is written to staging. -/
theorem clearStagingEmptiesStaging : Obligations.ClearStagingEmptiesStaging := by
  intro s r e h he
  have hstaging : ((s.setStaging Bank.empty).respond r .ok []).stagingBank = Bank.empty := s.stagingBank_setStaging _
  refine ⟨_, exec_clearStagingComplete h he, s.respond_setStaging_eq _ r, fun i => ?_, fun n => ?_, fun m k => ?_, ?_,
    s.activeBank_setStaging _, s.setStaging_active _, s.setStaging_generation _⟩
  all_goals rw [hstaging]
  · exact Vector.getElem_replicate i.isLt
  · exact Vector.getElem_replicate n.isLt
  · simp [Bank.empty, identityMap]
  · rfl

end Sys2Proof.Machine
end

section
/-! Arming a swap (R132 to R134) and cancelling it, before and after the completion that would perform it (R135). -/

-- One proof after another: side by side, each waiting thread takes a stack of its own.
set_option Elab.async false

namespace Sys2Proof.Machine

/-! ## ARM SWAP (R132 to R134) -/

section

variable {s : State} {r : Request} {rest : List Request}

theorem exec_armSwapNext (h : s.Executes r rest 0x1A#8) (htrigger : r.params[0]? ≠ some 0x02#8) :
    exec .armSwapNext s = .next (answerArmNext r { s with requestFifo := rest }) :=
  exec_of_executes h (by rw [rowOf, h.command_eq]; exact if_neg htrigger) rfl

theorem exec_armSwapMarker (h : s.Executes r rest 0x1A#8) (htrigger : r.params[0]? = some 0x02#8) :
    exec .armSwapMarker s = .next (answerArmMarker r { s with requestFifo := rest }) :=
  exec_of_executes h (by rw [rowOf, h.command_eq]; exact if_pos htrigger) rfl

end

/-- A response after the Swap State is written. -/
theorem State.respond_swap_eq_answered {s : State} (he : s.engine = .idle) (w : SwapState) (r : Request) (rest : List Request)
    (status : Status) (bytes : List Byte) :
    ({ s with requestFifo := rest, swap := w } : State).respond r status bytes =
      ({ s with swap := w } : State).answered rest (r.reply status bytes) :=
  State.respond_eq_answered (s := { s with swap := w }) he r rest status bytes

theorem validArmNext_next : validArmNext [0x01#8] = .ok () := rfl

/-- A Trigger that is none is out of range in either Length (R132, R173). -/
theorem validArmNext_badRange {b x : Byte} {ps : List Byte} (hps : ps = [b] ∨ ps = [b, x]) (hb : b ≠ 0x01#8) :
    validArmNext ps = .error .badRange := by
  have hne : (b != 0x01#8) = true := bne_iff_ne.2 hb
  rcases hps with rfl | rfl <;> simp [validArmNext, hb, hne]

theorem validArmMarker_ok {b : Byte} (h : b.toNat < 96) : validArmMarker [0x02#8, b] = .ok ⟨b.toNat, h⟩ :=
  congrArg (checked true) (indexOf_eq_some h)

theorem validArmMarker_badRange {b : Byte} (h : 95 < b.toNat) : validArmMarker [0x02#8, b] = .error .badRange :=
  congrArg (checked true) (indexOf_eq_none (n := Config.rules) h)

theorem BankId.code_eq (bank : BankId) : bank.code = bankByte bank := by
  cases bank <;> rfl

section

variable {s : State} {r : Request} (rest : List Request) (he : s.engine = .idle)

include he

/-- With an IDLE Classifier the response comes first, and then the swap (R133). -/
theorem armNext_performs (hc : s.classifier = .idle) :
    armNext r { s with requestFifo := rest } =
      (s.answered rest (r.reply .ok (armBytes 0x01#8 (s.generation + 1#8) s.active.other))).performSwap .next := by
  simp only [armNext, hc]
  rw [← hc, State.respond_eq_answered he]

/-- With a BUSY Classifier the swap waits for the completion (R133). -/
theorem armNext_arms (hc : s.classifier ≠ .idle) :
    armNext r { s with requestFifo := rest } =
      ({ s with swap := .armedNext } : State).answered rest (r.reply .ok (armBytes 0x02#8 s.generation s.active)) := by
  cases hbusy : s.classifier with
  | idle => exact absurd hbusy hc
  | busy i bank g =>
    simp only [armNext]
    rw [← hbusy, State.respond_swap_eq_answered he]

theorem answerArmNext_armed (hparams : r.params = [0x01#8]) (hswap : s.swap ≠ .idle) :
    answerArmNext r { s with requestFifo := rest } = s.answered rest (r.reply .swapArmed []) := by
  rw [answerArmNext, hparams, validArmNext_next, answerChecked_ok, if_pos (SwapState.armed_of_ne_idle hswap),
    State.respond_eq_answered he]

omit he in
theorem answerArmNext_unarmed (hparams : r.params = [0x01#8]) (hswap : s.swap = .idle) :
    answerArmNext r { s with requestFifo := rest } = armNext r { s with requestFifo := rest } := by
  rw [answerArmNext, hparams, validArmNext_next, answerChecked_ok, if_neg (SwapState.not_armed hswap)]

variable {m : RuleIndex} (hvalid : validArmMarker r.params = .ok m)

include hvalid

theorem answerArmMarker_armed (hswap : s.swap ≠ .idle) :
    answerArmMarker r { s with requestFifo := rest } = s.answered rest (r.reply .swapArmed []) := by
  rw [answerArmMarker, hvalid, answerChecked_ok, if_pos (SwapState.armed_of_ne_idle hswap), State.respond_eq_answered he]

/-- An EMPTY entry of the active bank is no Marker Rule (R132). -/
theorem answerArmMarker_empty (hswap : s.swap = .idle) (hm : s.activeBank.rules[m].valid = false) :
    answerArmMarker r { s with requestFifo := rest } = s.answered rest (r.reply .badRange []) := by
  rw [answerArmMarker, hvalid, answerChecked_ok, if_neg (SwapState.not_armed hswap)]
  exact (if_neg (Bool.eq_false_iff.1 hm)).trans (State.respond_eq_answered he ..)

theorem answerArmMarker_arms (hswap : s.swap = .idle) (hm : s.activeBank.rules[m].valid = true) :
    answerArmMarker r { s with requestFifo := rest } =
      ({ s with swap := .armedMarker m } : State).answered rest
        (r.reply .ok (armBytes 0x02#8 s.generation s.active)) := by
  rw [answerArmMarker, hvalid, answerChecked_ok, if_neg (SwapState.not_armed hswap)]
  exact (if_pos hm).trans (State.respond_swap_eq_answered he ..)

end

/-- Settles O47: each Trigger by its tests in the order of R132, and the Classifier that it finds. -/
theorem armSwapPerformsOrArms : Obligations.ArmSwapPerformsOrArms := by
  refine ⟨fun s r rest h => ⟨fun hparams => ?_, fun b x hparams hb hmarker => ?_⟩, fun s r rest b h hparams => ?_⟩
  · rw [exec_armSwapNext h (by rw [hparams]; decide)]
    refine ⟨fun hswap => ?_, fun hswap hc => ?_, fun hswap hc => ?_⟩
    · rw [answerArmNext_armed rest h.engine_idle hparams hswap]
    · rw [answerArmNext_unarmed rest hparams hswap, armNext_performs rest h.engine_idle hc, armBytes, BankId.code_eq]
      cases s.active <;> rfl
    · rw [answerArmNext_unarmed rest hparams hswap, armNext_arms rest h.engine_idle hc, armBytes, BankId.code_eq]
  · have htrigger : r.params[0]? ≠ some 0x02#8 := by
      rcases hparams with hparams | hparams <;> simpa [hparams] using hmarker
    rw [exec_armSwapNext h htrigger, answerArmNext,
      answerChecked_refused rest h.engine_idle (validArmNext_badRange hparams hb)]
  · rw [exec_armSwapMarker h (by rw [hparams]; rfl)]
    refine ⟨fun hb => ?_, fun hb => ?_⟩
    · rw [answerArmMarker, hparams, answerChecked_refused rest h.engine_idle (validArmMarker_badRange hb)]
    · have hvalid : validArmMarker r.params = .ok ⟨b.toNat, hb⟩ := hparams ▸ validArmMarker_ok hb
      refine ⟨fun hswap => ?_, fun hswap hm => ?_, fun hswap hm => ?_⟩
      · rw [answerArmMarker_armed rest h.engine_idle hvalid hswap]
      · rw [answerArmMarker_empty rest h.engine_idle hvalid hswap hm]
      · rw [answerArmMarker_arms rest h.engine_idle hvalid hswap hm, armBytes, BankId.code_eq]

/-! ## CANCEL SWAP (R135) -/

theorem validEmpty_badLength {ps : List Byte} (h : ps ≠ []) : validEmpty ps = .error .badLength := by
  rw [validEmpty, List.isEmpty_eq_false_iff.2 h, checked_badLength]

section

variable {s : State} {r : Request} {rest : List Request} (h : s.Executes r rest 0x1B#8)

include h

theorem exec_cancelSwap : exec .cancelSwap s = .next (answerCancel r { s with requestFifo := rest }) :=
  exec_of_executes h (by rw [rowOf, h.command_eq]; rfl) rfl

variable (hparams : r.params = [])

include hparams

theorem exec_cancelSwap_armed (hswap : s.swap ≠ .idle) :
    exec .cancelSwap s = .next (({ s with swap := .idle } : State).answered rest (r.reply .ok [])) := by
  rw [exec_cancelSwap h, answerCancel, hparams, validEmpty, List.isEmpty_nil, checked_some, answerChecked_ok,
    if_pos (SwapState.armed_of_ne_idle hswap), State.respond_swap_eq_answered h.engine_idle]

theorem exec_cancelSwap_unarmed (hswap : s.swap = .idle) :
    exec .cancelSwap s = .next (s.answered rest (r.reply .notArmed [])) := by
  rw [exec_cancelSwap h, answerCancel, hparams, validEmpty, List.isEmpty_nil, checked_some, answerChecked_ok,
    if_neg (SwapState.not_armed hswap), State.respond_eq_answered h.engine_idle]

/-- A CANCEL SWAP leaves no swap armed, and the banks' roles and the Generation Number as they were. -/
theorem exec_cancelSwap_leaves :
    ∃ t, exec .cancelSwap s = .next t ∧ t.swap = .idle ∧ t.active = s.active ∧ t.generation = s.generation := by
  by_cases hswap : s.swap = .idle
  · exact ⟨_, exec_cancelSwap_unarmed h hparams hswap, hswap, rfl, rfl⟩
  · exact ⟨_, exec_cancelSwap_armed h hparams hswap, rfl, rfl, rfl⟩

end

/-- With no swap armed a completion swaps no banks (R74). -/
theorem exec_classifyComplete_unarmed {s t : State} (h : s.swap = .idle) (ht : exec .classifyComplete s = .next t) :
    t.swap = .idle ∧ t.active = s.active ∧ t.generation = s.generation := by
  refine of_live (P := fun t => t.swap = .idle ∧ t.active = s.active ∧ t.generation = s.generation) ht ⟨h, rfl, rfl⟩
    ⟨completeClassification_swap h, ?_⟩
  unfold completeClassification
  split
  · exact ⟨rfl, rfl⟩
  · split
    · simp [completeRecord_eq_swapAtCompletion, State.swapAtCompletion, h]
    · exact ⟨rfl, rfl⟩

/-- A completion leaves the request that waits for the engine (R154). -/
theorem State.Executes.classifyComplete {s t : State} {r : Request} {rest : List Request} {command : Byte}
    (h : s.Executes r rest command) (ht : exec .classifyComplete s = .next t) : t.Executes r rest command := by
  rw [exec_classifyComplete_frame ht]
  exact h

/-- Settles O48: the response by the Swap State, and a completion on either side of the cancelling. -/
theorem cancelSwapDisarms : Obligations.CancelSwapDisarms := by
  intro s r rest h
  refine ⟨fun hparams => ?_, exec_cancelSwap_armed h, exec_cancelSwap_unarmed h, fun hparams => ?_,
    fun i fifo bank g x hparams hclassifies hfires => ?_⟩
  · rw [exec_cancelSwap h, answerCancel, answerChecked_refused rest h.engine_idle (validEmpty_badLength hparams)]
  · obtain ⟨t, ht, hidle, hactive, hgeneration⟩ := exec_cancelSwap_leaves h hparams
    obtain ⟨u, hu⟩ : ∃ u, exec .classifyComplete t = .next u := ⟨_, rfl⟩
    obtain ⟨hswap, hactive', hgeneration'⟩ := exec_classifyComplete_unarmed hidle hu
    refine ⟨u, ?_, hswap, hactive'.trans hactive, hgeneration'.trans hgeneration⟩
    rw [execAll_cons ht, execAll_cons hu]
    rfl
  · obtain ⟨-, hcompletion⟩ := swapIsOneEvent
    obtain ⟨t, u, ht, -, hgeneration, -, -, -, hnext, hmarker⟩ := hcompletion s i fifo bank g x hclassifies
    have hswapped : ∃ trigger, t = u.performSwap trigger := by
      rcases hfires with hw | ⟨m, hw, hopen, hmatch⟩
      · exact ⟨_, hnext hw⟩
      · exact ⟨_, (hmarker m hw).1 hopen hmatch⟩
    obtain ⟨trigger, htu⟩ := hswapped
    have hidle : t.swap = .idle := by rw [htu, State.performSwap_swap]
    refine ⟨t, u, trigger, ht, htu, hidle, ?_, exec_cancelSwap_unarmed (h.classifyComplete ht) hparams hidle⟩
    rw [htu, State.performSwap_generation, hgeneration]

end Sys2Proof.Machine
end

section
/-! The events that write a bank (R125, R127, R136), and those that change the Generation Number and the active bank (R131). -/

-- One proof after another: side by side, each waiting thread takes a stack of its own.
set_option Elab.async false

namespace Sys2Proof.Machine

/-! ## The banks (R125, R127, R136) -/

/-- The commands that write the staging bank. -/
def stagingWriters : List Instr :=
  [.writeRules, .writeChain, .writeMap, .setDefaultVerdict, .copyBankComplete, .clearStagingComplete]

/-- Power-on reset apart, no other command writes a bank. -/
theorem not_writtenBy_of_not_stagingWriter {c : Instr} (hreset : c ≠ .powerOnReset) (hc : c ∉ stagingWriters) :
    .bankA ∉ writtenBy c ∧ .bankB ∉ writtenBy c := by
  cases c
  case powerOnReset => exact absurd rfl hreset
  case byteReceived link x => cases link <;> simp [writtenBy]
  case lineDown link => cases link <;> simp [writtenBy]
  case writeRules | writeChain | writeMap | setDefaultVerdict | copyBankComplete | clearStagingComplete =>
    exact absurd (by decide) hc
  all_goals simp [writtenBy, Item.ofAnswer]

/-- Both banks stand, or the staging bank alone is written, with no swap armed. -/
def BanksKept (s t : State) : Prop :=
  (t.bankA = s.bankA ∧ t.bankB = s.bankB) ∨ (t.bank s.active = s.bank s.active ∧ (LongUnarmed s → s.swap = .idle))

theorem BanksKept.stand (s : State) : BanksKept s s := .inl ⟨rfl, rfl⟩

theorem BanksKept.bank_active {s t : State} (h : BanksKept s t) : t.bank s.active = s.bank s.active := by
  rcases h with ⟨ha, hb⟩ | ⟨h, -⟩
  · cases s.active
    · exact ha
    · exact hb
  · exact h

theorem BanksKept.frozen {s t : State} (h : BanksKept s t) (hlong : LongUnarmed s) (hswap : s.swap ≠ .idle) :
    t.bankA = s.bankA ∧ t.bankB = s.bankB :=
  h.resolve_right fun ⟨_, hidle⟩ => hswap (hidle hlong)

/-- The staging bank written, and a response appended. -/
theorem BanksKept.setStaging {s : State} (hswap : LongUnarmed s → s.swap = .idle) (bank : Bank) (r : Request) :
    BanksKept s ((s.setStaging bank).respond r .ok []) := by
  refine .inr ⟨?_, hswap⟩
  have h : (s.setStaging bank).bank (s.setStaging bank).active = s.bank s.active := s.activeBank_setStaging bank
  rwa [State.setStaging_active] at h

/-- A writer of staging is refused, or finds no swap armed (R136). -/
theorem BanksKept.writer {α : Type} (v : Except Status α) (write : α → Bank → Bank) (r : Request) (s : State) :
    BanksKept s (answerWriter v write r s) := by
  unfold answerWriter
  rcases answerChecked_cases v r s _ with ⟨e, -, h⟩ | ⟨a, -, h⟩ <;> rw [h]
  · exact .stand s
  · split
    · exact .stand s
    · next hw => exact .setStaging (fun _ => SwapState.armed_eq_false hw) _ r

theorem BanksKept.completeCopy (s : State) : BanksKept s (completeCopy s) := by
  unfold Machine.completeCopy
  split
  · next he => exact .setStaging (fun hlong => by rwa [LongUnarmed, he] at hlong) _ _
  · exact .stand s

theorem BanksKept.completeClear (s : State) : BanksKept s (completeClear s) := by
  unfold Machine.completeClear
  split
  · next he => exact .setStaging (fun hlong => by rwa [LongUnarmed, he] at hlong) _ _
  · exact .stand s

theorem exec_banks_of_not_writer {c : Instr} {s t : State} (hreset : c ≠ .powerOnReset) (hc : c ∉ stagingWriters)
    (h : exec c s = .next t) : t.bankA = s.bankA ∧ t.bankB = s.bankB := by
  obtain ⟨ha, hb⟩ := not_writtenBy_of_not_stagingWriter hreset hc
  exact ⟨exec_same h ha, exec_same h hb⟩

theorem exec_banksKept {c : Instr} {s t : State} (hreset : c ≠ .powerOnReset) (h : exec c s = .next t) :
    BanksKept s t := by
  by_cases hc : c ∈ stagingWriters
  · simp only [stagingWriters, List.mem_cons, List.not_mem_nil, or_false] at hc
    have hrow {α : Type} {c : Instr} {v : Request → Except Status α} {write : α → Bank → Bank}
        (hact : rowAct c = some fun r t => answerWriter (v r) write r t) (h : exec c s = .next t) : BanksKept s t :=
      of_row hact h (.stand s) fun r rest _ _ _ => .writer (v r) write r { s with requestFifo := rest }
    rcases hc with rfl | rfl | rfl | rfl | rfl | rfl
    · exact hrow rfl h
    · exact hrow rfl h
    · exact hrow rfl h
    · exact hrow rfl h
    · exact of_live h (.stand s) (.completeCopy s)
    · exact of_live h (.stand s) (.completeClear s)
  · exact .inl (exec_banks_of_not_writer hreset hc h)

/-! ## The Generation Number and the active bank (R131) -/

/-- A swap from one state to the other: the next generation, the other bank, every run cleared, and nothing armed or in
flight. -/
def Swapped (s t : State) : Prop :=
  t.generation = s.generation + 1#8 ∧ t.active ≠ s.active ∧ t.swap = .idle ∧ SwapDone t

/-- The Generation Number and the active bank stand, or change together in a swap. -/
def GenerationKept (s t : State) : Prop := (t.generation = s.generation ∧ t.active = s.active) ∨ Swapped s t

theorem GenerationKept.stand (s : State) : GenerationKept s s := .inl ⟨rfl, rfl⟩

theorem BankId.other_ne (bank : BankId) : bank.other ≠ bank := by
  cases bank <;> decide

/-- A swap performed with the Classifier IDLE. -/
theorem GenerationKept.performSwap {s u : State} (hgeneration : u.generation = s.generation) (hactive : u.active = s.active)
    (hidle : u.classifier = .idle) (trigger : SwapTrigger) : GenerationKept s (u.performSwap trigger) := by
  refine .inr ⟨?_, ?_, u.performSwap_swap trigger, State.performSwap_done hidle trigger⟩
  · rw [State.performSwap_generation, hgeneration]
  · rw [State.performSwap_active, hactive]
    exact s.active.other_ne

theorem GenerationKept.completeClassification (s : State) : GenerationKept s (completeClassification s) := by
  unfold Machine.completeClassification
  split
  · exact .stand s
  · next i bank g _ =>
    split
    · next r _ _ =>
      rw [completeRecord_eq_swapAtCompletion]
      rcases State.swapAtCompletion_cases (s.completedUnswapped i bank g r) s.swap _ _ with e | ⟨trigger, e⟩ <;> rw [e]
      · exact .inl ⟨by simp, by simp⟩
      · exact .performSwap (by simp) (by simp) (by simp) trigger
    · exact .stand s

/-- ARM SWAP NEXT swaps at once with an IDLE Classifier alone (R133). -/
theorem GenerationKept.armNext (r : Request) (s : State) : GenerationKept s (answerArmNext r s) := by
  unfold answerArmNext
  rcases answerChecked_cases (validArmNext r.params) r s _ with ⟨e, -, h⟩ | ⟨_, -, h⟩ <;> rw [h]
  · exact .stand s
  · split
    · exact .stand s
    · unfold Machine.armNext
      split
      · next hidle => exact .performSwap rfl rfl hidle .next
      · exact .inl ⟨rfl, rfl⟩

/-- Power-on reset apart, only ARM SWAP NEXT and a completion write the Generation Number or the active bank. -/
theorem not_writtenBy_of_not_swapper {c : Instr} (hreset : c ≠ .powerOnReset)
    (hc : ¬ (c = .armSwapNext ∨ c = .classifyComplete)) : .generation ∉ writtenBy c ∧ .active ∉ writtenBy c := by
  cases c
  case powerOnReset => exact absurd rfl hreset
  case byteReceived link x => cases link <;> simp [writtenBy]
  case lineDown link => cases link <;> simp [writtenBy]
  case armSwapNext => exact absurd (.inl rfl) hc
  case classifyComplete => exact absurd (.inr rfl) hc
  all_goals simp [writtenBy, Item.ofAnswer]

theorem exec_generationKept {c : Instr} {s t : State} (hc : c = .armSwapNext ∨ c = .classifyComplete)
    (h : exec c s = .next t) : GenerationKept s t := by
  rcases hc with rfl | rfl
  · exact of_row (P := GenerationKept s) rfl h (.stand s) fun r rest _ _ _ => GenerationKept.armNext r { s with requestFifo := rest }
  · exact of_live h (.stand s) (.completeClassification s)

/-- Settles O58: the six writers keep the active bank and are refused while a swap is armed, and the two events of a swap do it
whole; every other command writes none of these items. -/
theorem banksAndGenerationChangeOnlyByTheirEvents : Obligations.BanksAndGenerationChangeOnlyByTheirEvents := by
  refine ⟨fun c s t hreset h => ?_, fun c s t hreset h => ?_⟩
  · have hbanks := exec_banksKept hreset h
    refine ⟨hbanks.bank_active, hbanks.frozen, fun hchanged => ?_⟩
    by_contra hc
    obtain ⟨ha, hb⟩ := exec_banks_of_not_writer hreset hc h
    exact hchanged.elim (· ha) (· hb)
  · by_cases hc : c = .armSwapNext ∨ c = .classifyComplete
    · exact (exec_generationKept hc h).imp_right fun ⟨hgeneration, hactive, hswap, hclassifier, hruns⟩ =>
        ⟨hgeneration, hactive, hswap, hclassifier, hruns, hc⟩
    · obtain ⟨hgeneration, hactive⟩ := not_writtenBy_of_not_swapper hreset hc
      exact .inl ⟨exec_same h hgeneration, exec_same h hactive⟩

end Sys2Proof.Machine
end

section
/-! A raised notice by its fate at the Notice Queue (R147), and the row that takes a request (R154, log entries 3 and 4). -/

-- One proof after another: side by side, each waiting thread takes a stack of its own.
set_option Elab.async false

namespace Sys2Proof.Machine

/-! ## The Notice Queue (R145 to R149) -/

theorem NoticeMask.enables_eq_raises (m : NoticeMask) (k : NoticeKind) : m.enables k = m.raises k := by
  cases k <;> rfl

theorem Notice.gathers_iff (n p : Notice) :
    n.gathers p = true ↔
      (n.kind = .queueDrop ∧ p.kind = .queueDrop ∧ p.subject = n.subject) ∨ (n.kind = .poolDrop ∧ p.kind = .poolDrop) := by
  unfold Notice.gathers
  split
  · next hkind => simp [hkind]
  · next hkind => simp [hkind]
  · next hqueue hpool => exact ⟨(nomatch ·), fun h => h.elim (fun ⟨hk, _⟩ => (hqueue hk).elim) fun ⟨hk, _⟩ => (hpool hk).elim⟩

theorem Notice.isLoss_iff (p : Notice) : p.isLoss = true ↔ p.kind = .noticeLoss := beq_iff_eq

/-- A Detail at its greatest value leaves the whole notice as it is (R148). -/
theorem Notice.bump_eq (p : Notice) :
    p.bump = if p.detail = 0xFFFFFFFF#32 then p else { p with detail := p.detail + 1#32 } := by
  unfold Notice.bump countUp
  split <;> rfl

/-- A change of the entries that meet a test, where one entry alone meets it. -/
theorem map_of_only {α : Type} {test : α → Bool} (f : α → α) {before after : List α} {p : α} (hp : test p = true)
    (hothers : ∀ x ∈ before ++ after, ¬ test x = true) :
    ((before ++ p :: after).map fun x => if test x then f x else x) = before ++ f p :: after := by
  have hkept {l : List α} (hl : ∀ x ∈ l, x ∈ before ++ after) : (l.map fun x => if test x then f x else x) = l :=
    (List.map_congr_left fun x hx => if_neg (hothers x (hl x hx))).trans l.map_id
  rw [List.map_append, List.map_cons, if_pos hp, hkept fun x => List.mem_append_left after,
    hkept fun x => List.mem_append_right before]

/-- The one pending NOTICE_LOSS counts a loss (R149). -/
theorem recordLoss_pending {before after : List Notice} {p : Notice} (hp : p.kind = .noticeLoss)
    (hothers : ∀ x ∈ before ++ after, x.kind ≠ .noticeLoss) :
    recordLoss (before ++ p :: after) = before ++ p.bump :: after := by
  have hloss : p.isLoss = true := p.isLoss_iff.2 hp
  have hany : (before ++ p :: after).any Notice.isLoss = true := List.any_eq_true.2 ⟨p, by simp, hloss⟩
  rw [recordLoss, if_pos hany]
  exact map_of_only Notice.bump hloss fun x hx => mt x.isLoss_iff.1 (hothers x hx)

/-- With no NOTICE_LOSS pending, a loss appends one (R149). -/
theorem recordLoss_first {queue : List Notice} (h : ∀ p ∈ queue, p.kind ≠ .noticeLoss) :
    recordLoss queue = queue ++ [firstLoss] := by
  have hnone : ¬ queue.any Notice.isLoss = true := fun hany =>
    have ⟨p, hp, hloss⟩ := List.any_eq_true.1 hany
    h p hp (p.isLoss_iff.1 hloss)
  rw [recordLoss, if_neg hnone]

/-- A notice that is not masked and gathers with one pending notice alone counts in it (R148). -/
theorem State.raise_gathered_only {s : State} {n p : Notice} {before after : List Notice}
    (h : s.noticeMask.enables n.kind = true) (hqueue : s.notices = before ++ p :: after) (hp : n.gathers p = true)
    (hothers : ∀ x ∈ before ++ after, ¬ n.gathers x = true) :
    s.raise n = { s with notices := before ++ p.bump :: after } := by
  have hany : s.notices.any n.gathers = true := List.any_eq_true.2 ⟨p, by simp [hqueue], hp⟩
  rw [State.raise_gathered h hany, hqueue, map_of_only Notice.bump hp hothers]

/-- Settles O31: each fate of R147 by its own rule for the raise, with the queue it leaves. -/
theorem raisedNoticeMeetsTheQueue : Obligations.RaisedNoticeMeetsTheQueue := by
  intro s n
  simp only [← NoticeMask.enables_eq_raises, ← Notice.gathers_iff, ← Notice.bump_eq]
  refine ⟨State.raise_masked, fun henabled => ⟨fun before p after => State.raise_gathered_only henabled, fun hnone => ?_⟩⟩
  have hgathers : s.notices.any n.gathers = false := List.any_eq_false.2 hnone
  refine ⟨fun hfull => ?_, State.raise_entered henabled hgathers⟩
  rw [State.raise_lost henabled hgathers hfull]
  refine ⟨fun before p after hqueue hloss hothers => ?_, fun hfirst => ?_⟩
  · rw [hqueue, recordLoss_pending hloss hothers]
  · rw [recordLoss_first hfirst]
    rfl

/-! ## The row of a request (R154, R155; log entries 3 and 4) -/

theorem Request.command_eq_ofNat {r : Request} {n : Nat} (h : r.command.toNat = n) : r.command = BitVec.ofNat 8 n := by
  rw [← h, BitVec.ofNat_toNat, BitVec.setWidth_eq]

/-- The row of a Command of 11.2 is the one of the opcode table. -/
theorem rowTakes_rowOf {r : Request} (h : r.command ∈ commandCodes) : rowTakes r.command r.params (rowOf r) := by
  unfold rowOf
  split
  -- ARM SWAP and READ COUNTERS, which one of their Parameters splits into two rows each (log entry 4)
  case h_17 hcode =>
    have hcommand : r.command = 0x1A#8 := Request.command_eq_ofNat hcode
    split
    · next htrigger => exact .inr (.inl ⟨hcommand, List.head?_eq_getElem?.trans htrigger, rfl⟩)
    · next htrigger => exact .inr (.inr (.inl ⟨hcommand, List.head?_eq_getElem? ▸ htrigger, rfl⟩))
  case h_21 hcode =>
    have hcommand : r.command = 0x22#8 := Request.command_eq_ofNat hcode
    split
    · next hclear => exact .inr (.inr (.inr (.inl ⟨hcommand, hclear, rfl⟩)))
    · next hclear => exact .inr (.inr (.inr (.inr ⟨hcommand, hclear, rfl⟩)))
  -- no code of 11.2 is left
  case h_23 => simp_all [commandCodes, ← BitVec.toNat_inj]
  all_goals next hcode =>
    rw [Request.command_eq_ofNat hcode]
    exact .inl (by decide)

/-- A Command that 11.2 does not list is of the row UNKNOWN_COMMAND_REQUEST. -/
theorem rowOf_of_not_mem {r : Request} (h : r.command ∉ commandCodes) : rowOf r = .unknownCommandRequest := by
  unfold rowOf
  split
  case h_23 => rfl
  all_goals next hcode =>
    rw [Request.command_eq_ofNat hcode] at h
    exact absurd (by decide) h

/-- A row that is not that of the request at hand, or finds the engine unable to take, changes nothing (log entry 3). -/
theorem exec_row_stands {s : State} {c : Instr} (hc : (rowAct c).isSome = true)
    (h : ∀ r rest, s.requestFifo = r :: rest → s.engine = .idle → s.responses.length < 4 → s.rowFor r ≠ c) :
    exec c s = .next s := by
  obtain ⟨act, hact⟩ := Option.isSome_iff_exists.1 hc
  rw [exec_eq_takeAs hact]
  rcases s.takeAs_cases c act with e | ⟨r, rest, hf, he, hr, hrow, -⟩
  · rw [e]
    simp [live]
  · exact absurd hrow (h r rest hf he hr)

/-- Settles O34: the conditions of a take, the row of a duplicate, and that of a Command by the table or by none. -/
theorem onlyItsOwnRowTakesARequest : Obligations.OnlyItsOwnRowTakesARequest := by
  intro s k hk
  have hrow : (rowAct k).isSome = true := by
    revert k
    decide
  refine ⟨fun hcannot => exec_row_stands hrow fun r rest hf he hr _ => ?_, fun r rest hf hdup hk => ?_,
    fun r rest hf hfresh hother hunknown => ?_⟩
  · rcases hcannot with hempty | hbusy | hfull
    · simp [hempty] at hf
    · exact hbusy he
    · omega
  · refine exec_row_stands hrow fun r' rest' hf' _ _ => ?_
    obtain ⟨rfl, -⟩ := List.cons.inj (hf.symm.trans hf')
    obtain ⟨p, hp, hnumber⟩ := hdup
    rw [State.rowFor_duplicate hp hnumber]
    exact hk.symm
  · refine exec_row_stands hrow fun r' rest' hf' _ _ => ?_
    obtain ⟨rfl, -⟩ := List.cons.inj (hf.symm.trans hf')
    rw [State.rowFor_fresh hfresh]
    by_cases hcode : r.command ∈ commandCodes
    · exact (hother _ (rowTakes_rowOf hcode)).symm
    · rw [rowOf_of_not_mem hcode]
      exact (hunknown hcode).symm

end Sys2Proof.Machine
end

section
/-! The refusal of an unknown Command and of a bad Length (R157, R173), the answer to a duplicate (R155, R156), and the
requests that report the part, its state and its counters (R159 to R163). -/

-- One proof after another: side by side, each waiting thread takes a stack of its own.
set_option Elab.async false

namespace Sys2Proof.Machine

/-! ## The Length that each row accepts (R157, R173) -/

/-- The test of the Length that a request meets at its own row, before any other test. -/
def rowLengthOk (ps : List Byte) : Instr → Bool
  | .identify | .readStatus | .copyBank | .clearStaging | .cancelSwap | .restartTraffic => ps.isEmpty
  | .readContext | .readWatch | .readDefaultVerdict => ps.length == 1
  | .ackWatch | .readChain | .armSwapMarker => ps.length == 2
  | .readRules | .readCounters | .readCountersClear => ps.length == 3
  | .readMap | .setQueueLimits => ps.length == 4
  | .setDefaultVerdict => ps.length == 5
  | .setNoticeMask => ps.length == 8
  | .writeChain => ps.length == 17
  | .modifyContext => listLengthOk 2 3 6 ps.length
  | .writeRules => listLengthOk 1 24 8 ps.length
  | .writeMap => listLengthOk 2 2 64 ps.length
  | .armSwapNext => ps.length == 1 || (ps.length == 2 && ps.getD 0 0#8 != 0x01#8)
  | _ => true

theorem answerChecked_badLength {α : Type} {lengthOk : Bool} (h : lengthOk = false) (value : Option α) (r : Request)
    (s : State) (act : α → State) : answerChecked (checked lengthOk value) r s act = s.respond r .badLength [] := by
  rw [h, checked_badLength, answerChecked_error]

/-- Every row refuses a Length that fails its test, whatever the Parameters hold. -/
theorem rowAct_badLength {c : Instr} {act : Request → State → State} (hc : rowAct c = some act) {r : Request}
    (h : rowLengthOk r.params c = false) (s : State) : act r s = s.respond r .badLength [] := by
  cases c <;> cases hc
  case duplicateRequest => cases h
  case unknownCommandRequest => cases h
  all_goals exact answerChecked_badLength h ..

/-- The row of every Command has its meaning. -/
theorem exists_rowAct_rowOf (r : Request) : ∃ act, rowAct (rowOf r) = some act := by
  unfold rowOf
  split
  -- ARM SWAP and READ COUNTERS, each of which has two rows (log entry 4)
  case h_17 => split <;> exact ⟨_, rfl⟩
  case h_21 => split <;> exact ⟨_, rfl⟩
  all_goals exact ⟨_, rfl⟩

/-- A row of the opcode table that takes a Command with these Parameters is the row of the request. -/
theorem rowOf_of_rowTakes {r : Request} {c : Instr} (h : rowTakes r.command r.params c) : rowOf r = c := by
  rcases h with h | ⟨hcommand, ht, rfl⟩ | ⟨hcommand, ht, rfl⟩ | ⟨hcommand, ht, rfl⟩ | ⟨hcommand, ht, rfl⟩
  · simp only [List.mem_cons, Prod.mk.injEq, List.not_mem_nil, or_false] at h
    casesm* _ ∨ _, _ ∧ _
    all_goals next hcommand hrow => rw [rowOf, hcommand, hrow]; rfl
  · rw [rowOf, hcommand]
    exact if_pos (List.head?_eq_getElem? ▸ ht)
  · rw [rowOf, hcommand]
    exact if_neg (List.head?_eq_getElem? ▸ ht)
  · rw [rowOf, hcommand]
    exact if_pos ht
  · rw [rowOf, hcommand]
    exact if_neg ht

/-- A list Length that is accepted is that of 1 to `most` whole items (R157). -/
theorem listLengthOk_iff {fixed size most length : Nat} (hsize : 0 < size) :
    listLengthOk fixed size most length = true ↔ ∃ n, 1 ≤ n ∧ n ≤ most ∧ length = fixed + size * n := by
  constructor
  · simp only [listLengthOk, Bool.and_eq_true, decide_eq_true_iff]
    exact fun ⟨⟨hlength, h1⟩, hmost⟩ => ⟨_, h1, hmost, hlength⟩
  · rintro ⟨n, h1, hmost, rfl⟩
    exact listLengthOk_items hsize h1 hmost

/-- A Length that passes the test of its row is one that the table of R173 accepts. -/
theorem acceptsLength_of_rowLengthOk {command : Byte} {ps : List Byte} {c : Instr} (hc : rowTakes command ps c)
    (h : rowLengthOk ps c = true) : acceptsLength command ps := by
  rcases hc with hc | ⟨rfl, ht, rfl⟩ | ⟨rfl, ht, rfl⟩ | ⟨rfl, -, rfl⟩ | ⟨rfl, -, rfl⟩
  · simp only [List.mem_cons, Prod.mk.injEq, List.not_mem_nil, or_false] at hc
    casesm* _ ∨ _, _ ∧ _
    all_goals next hcommand hrow =>
      subst hcommand hrow
      simpa [rowLengthOk, listLengthOk_iff, acceptsLength] using h
  · have hlength : ps.length = 2 := beq_iff_eq.1 h
    simp [acceptsLength, hlength, ht]
  · rcases Bool.or_eq_true_iff.1 h with h1 | h2
    · simp [acceptsLength, beq_iff_eq.1 h1, ht]
    · obtain ⟨hlength, htrigger⟩ := Bool.and_eq_true_iff.1 h2
      obtain ⟨a, b, rfl⟩ := List.length_eq_two.1 (beq_iff_eq.1 hlength)
      simpa [acceptsLength] using htrigger
  all_goals
    have hlength : ps.length = 3 := beq_iff_eq.1 h
    simp [acceptsLength, hlength]

/-- Settles O33: the row of a Command that is none, and the test of the Length at the row that takes the request. -/
theorem unknownCommandsAndBadLengthsRefused : Obligations.UnknownCommandsAndBadLengthsRefused := by
  intro s r rest h
  refine ⟨fun hunknown => ?_, fun c hc hlength => ?_⟩
  · rw [exec_of_executes h (rowOf_of_not_mem hunknown) rfl, State.respond_eq_answered h.engine_idle]
  · obtain rfl := rowOf_of_rowTakes hc
    obtain ⟨act, hact⟩ := exists_rowAct_rowOf r
    have hbad : rowLengthOk r.params (rowOf r) = false :=
      Bool.eq_false_iff.2 fun hok => hlength (acceptsLength_of_rowLengthOk hc hok)
    rw [exec_of_executes h rfl hact, rowAct_badLength hact hbad, State.respond_eq_answered h.engine_idle]

/-! ## A duplicate (R155, R156) -/

/-- Settles O32: the take by the row of a duplicate appends the Stored Response. -/
theorem duplicateReceivesTheStoredResponse : Obligations.DuplicateReceivesTheStoredResponse := by
  intro s r rest p ⟨hheld, he, hr, hf⟩ hp hnumber
  rw [exec_eq_takeAs (show rowAct .duplicateRequest = some answerDuplicate from rfl),
    live_takeAs answerDuplicate hheld he hr hf (State.rowFor_duplicate hp hnumber), answerDuplicate, hp]
  rfl

/-! ## IDENTIFY and READ STATUS (R159, R160) -/

theorem SwapState.code_eq (w : SwapState) : w.code = swapByte w := by
  cases w <;> rfl

theorem LineMonitor.code_eq (m : LineMonitor) : m.code = lineStateByte m := by
  cases m <;> rfl

/-- The items of the four queues in a row, Queue 0 first. -/
theorem toList_map_queues {α β : Type} (f : α → β) (v : Vector α Config.queues) :
    v.toList.map f = [f v[(0 : QueueId)], f v[(1 : QueueId)], f v[(2 : QueueId)], f v[(3 : QueueId)]] := by
  have hlist : v.toList = (List.finRange 4).map fun q => v[q] := List.ext_getElem (by simp) fun i _ _ => by simp
  rw [hlist]
  rfl

section

variable {s : State} {r : Request} {rest : List Request}

theorem exec_identify (h : s.Executes r rest 0x01#8) :
    exec .identify s = .next (answerIdentify r { s with requestFifo := rest }) :=
  exec_of_executes h (by rw [rowOf, h.command_eq]; rfl) rfl

theorem exec_readStatus (h : s.Executes r rest 0x02#8) :
    exec .readStatus s = .next (answerReadStatus r { s with requestFifo := rest }) :=
  exec_of_executes h (by rw [rowOf, h.command_eq]; rfl) rfl

end

theorem validEmpty_ok {ps : List Byte} (h : ps = []) : validEmpty ps = .ok () := by
  rw [h]
  rfl

/-- Settles O35: both pass the test of the Length, and the bytes of each by the tables of 11.2. -/
theorem identifyAndReadStatus : Obligations.IdentifyAndReadStatus := by
  intro s r rest
  refine ⟨fun h hparams => ?_, fun h hparams => ?_⟩
  · rw [exec_identify h, answerIdentify, validEmpty_ok hparams, answerChecked_ok, State.respond_eq_answered h.engine_idle]
    rfl
  · rw [exec_readStatus h, answerReadStatus, validEmpty_ok hparams, answerChecked_ok,
      State.respond_eq_answered h.engine_idle]
    simp only [statusBytes, BankId.code_eq, SwapState.code_eq, LineMonitor.code_eq,
      toList_map_queues]
    rfl

/-! ## READ COUNTERS (R162, R163) -/

section

variable {scope x clear : Byte}

/-- The Channel is not examined for GLOBAL (R162). -/
theorem validReadCounters_global (flag : Bool) : validReadCounters [0x00#8, x, bitByte flag] = .ok (none, flag) := by
  have hflag : parseFlag (bitByte flag) = some flag := parseFlag_eq_some_iff.2 rfl
  simp [validReadCounters, hflag]

theorem validReadCounters_channel (hx : x.toNat < 128) (flag : Bool) :
    validReadCounters [0x01#8, x, bitByte flag] = .ok (some ⟨x.toNat, hx⟩, flag) := by
  have hflag : parseFlag (bitByte flag) = some flag := parseFlag_eq_some_iff.2 rfl
  have hindex : indexOf Config.channels x = some ⟨x.toNat, hx⟩ := indexOf_eq_some hx
  simp [validReadCounters, hflag, hindex]

/-- A Clear that is none is out of range in every scope (R162). -/
theorem validReadCounters_badClear (h0 : clear ≠ 0x00#8) (h1 : clear ≠ 0x01#8) :
    validReadCounters [scope, x, clear] = .error .badRange := by
  simp [validReadCounters, parseFlag_eq_none h0 h1]

/-- A Scope or a Channel that is none is out of range with every Clear (R162). -/
theorem validReadCounters_badScope (h : (scope ≠ 0x00#8 ∧ scope ≠ 0x01#8) ∨ (scope = 0x01#8 ∧ 127 < x.toNat)) :
    validReadCounters [scope, x, clear] = .error .badRange := by
  rcases h with ⟨h0, h1⟩ | ⟨rfl, hx⟩
  · cases hflag : parseFlag clear <;> simp [validReadCounters, hflag, h0, h1]
  · have hindex : indexOf Config.channels x = none := indexOf_eq_none hx
    cases hflag : parseFlag clear <;> simp [validReadCounters, hflag, hindex]

end

section

variable {s : State} {r : Request} {rest : List Request}

theorem exec_readCounters (h : s.Executes r rest 0x22#8) (hclear : r.params[2]? ≠ some 0x01#8) :
    exec .readCounters s = .next (answerReadCounters r { s with requestFifo := rest }) :=
  exec_of_executes h (by rw [rowOf, h.command_eq]; exact if_neg hclear) rfl

theorem exec_readCountersClear (h : s.Executes r rest 0x22#8) (hclear : r.params[2]? = some 0x01#8) :
    exec .readCountersClear s = .next (answerReadCounters r { s with requestFifo := rest }) :=
  exec_of_executes h (by rw [rowOf, h.command_eq]; exact if_pos hclear) rfl

/-- In scope GLOBAL the global counters are reported, and with Clear YES set to 0 (R163). -/
theorem answerReadCounters_global {x : Byte} (he : s.engine = .idle) (flag : Bool)
    (hparams : r.params = [0x00#8, x, bitByte flag]) :
    answerReadCounters r { s with requestFifo := rest } =
      (if flag then { s with counters := Counters.zero } else s).answered rest (r.reply .ok s.counters.bytes) := by
  rw [answerReadCounters, hparams, validReadCounters_global, answerChecked_ok]
  cases flag
  · exact State.respond_eq_answered he ..
  · exact State.respond_eq_answered (s := { s with counters := Counters.zero }) he ..

/-- In scope CHANNEL the counters of the channel are reported, and with Clear YES set to 0 (R163). -/
theorem answerReadCounters_channel {x : Byte} (he : s.engine = .idle) (hx : x.toNat < 128) (flag : Bool)
    (hparams : r.params = [0x01#8, x, bitByte flag]) :
    answerReadCounters r { s with requestFifo := rest } =
      (if flag then s.setContext ⟨x.toNat, hx⟩ (s.context ⟨x.toNat, hx⟩).clearCounters else s).answered rest
        (r.reply .ok (channelCounterBytes ⟨x.toNat, hx⟩ (s.context ⟨x.toNat, hx⟩))) := by
  rw [answerReadCounters, hparams, validReadCounters_channel hx, answerChecked_ok]
  cases flag
  · exact State.respond_eq_answered he ..
  · exact State.respond_eq_answered (s := s.setContext ⟨x.toNat, hx⟩ _) he ..

end

/-- The results in scope CHANNEL: the Channel as it came, and its four counters (10.6). -/
theorem channelCounterBytes_eq {x : Byte} (hx : x.toNat < 128) (c : Context) :
    channelCounterBytes ⟨x.toNat, hx⟩ c = x :: [c.classified, c.forwarded, c.dropped, c.downSent].flatMap bytes32 := by
  rw [channelCounterBytes, byteOf_toNat]
  rfl

/-- Settles O50: each scope without and with Clear YES, and the Scope, Channel or Clear that is none. -/
theorem readCountersReportsAndClears : Obligations.ReadCountersReportsAndClears := by
  intro s r rest scope x clear h hparams k global channel
  have hread (hclear : clear ≠ 0x01#8) := exec_readCounters h (by simpa [hparams] using hclear)
  have hreadClear (hclear : clear = 0x01#8) := exec_readCountersClear h (by simpa [hparams] using hclear)
  have hrefused (hvalid : validReadCounters [scope, x, clear] = .error .badRange) :
      answerReadCounters r { s with requestFifo := rest } = s.answered rest (r.reply .badRange []) :=
    answerChecked_refused rest h.engine_idle (hparams ▸ hvalid) _
  refine ⟨?_, ?_, fun hx hscope => ⟨?_, ?_⟩, fun hbad => ⟨fun hclear => ?_, fun hclear => ?_⟩, fun h0 h1 => ?_⟩
  · rintro rfl rfl
    rw [hread (by decide), answerReadCounters_global h.engine_idle false hparams]
    rfl
  · rintro rfl rfl
    rw [hreadClear rfl, answerReadCounters_global h.engine_idle true hparams]
    rfl
  · rintro rfl
    rw [hread (by decide), answerReadCounters_channel h.engine_idle hx false (hscope ▸ hparams), channelCounterBytes_eq]
    rfl
  · rintro rfl
    rw [hreadClear rfl, answerReadCounters_channel h.engine_idle hx true (hscope ▸ hparams), channelCounterBytes_eq]
    rfl
  · rw [hread hclear, hrefused (validReadCounters_badScope hbad)]
  · rw [hreadClear hclear, hrefused (validReadCounters_badScope hbad)]
  · rw [hread h1, hrefused (validReadCounters_badClear h0 h1)]

end Sys2Proof.Machine
end

section
/-! A step on a waiting command, and the completion of every command with the queue as it was (log entries 1, 3 and 20). -/

-- One proof after another: side by side, each waiting thread takes a stack of its own.
set_option Elab.async false

namespace Sys2Proof.Machine

/-! ## A waiting command -/

/-- Settles O1, by the equation of `step` for a queue that is not empty. -/
theorem stepRunsFrontCommand : Obligations.StepRunsFrontCommand := fun _ _ _ => rfl

/-! ## The completion of every command -/

/-- An event completes, whether RESET is held or not. -/
theorem live_completes (s next : State) : ∃ t, live s next = .next t := by
  cases h : s.resetHeld with
  | true => exact ⟨s, live_of_held next h⟩
  | false => exact ⟨next, live_of_released next h⟩

/-- Every command completes: POWER_ON_RESET and RESET_RELEASE whatever the state, and every other one as an event that RESET
may hold. -/
theorem exec_completes (c : Instr) (s : State) : ∃ t, exec c s = .next t := by
  cases c with
  | powerOnReset => exact ⟨_, rfl⟩
  | resetRelease startOpen => exact ⟨_, rfl⟩
  | _ => exact live_completes s _

/-- No command writes the queue of waiting commands. -/
theorem pending_not_mem_writtenBy (c : Instr) : .pending ∉ writtenBy c := by
  cases c with
  | byteReceived link _ => cases link <;> simp [writtenBy]
  | lineDown link => cases link <;> simp [writtenBy]
  | _ => simp [writtenBy, Item.ofAnswer]

/-- Settles O2: every command completes, and the queue is an item that none of them writes. -/
theorem commandsCompleteAndKeepTheQueue : Obligations.CommandsCompleteAndKeepTheQueue := by
  intro c s
  obtain ⟨t, h⟩ := exec_completes c s
  have hqueue : Item.pending.Same s t := exec_same h (pending_not_mem_writtenBy c)
  exact ⟨t, h, hqueue⟩

end Sys2Proof.Machine
end
